-- ==== Sys2Proof/Word.lean ====
section
/-! DEFINITION. The byte of the register window, its parts, and tables of a fixed number of like things. -/

namespace Sys2Proof

/-- One byte of the register window (12, R178). -/
abbrev Byte := BitVec 8

/-- A channel, and the key record of the same number: 0 to 23 (00_scope.md, section 4). -/
abbrev Channel := Fin 24

/-- A group: 0 to 5 (5, R80). -/
abbrev GroupId := Fin 6

/-- An indicator line: IND0 to IND7 (11, R170). -/
abbrev LineId := Fin 8

/-- A hop frequency: H0 to H4 (1, R10). -/
abbrev Hop := Fin 5

/-- The table that holds `f i` at place `i`. Its list is built by structural recursion, so that the kernel
can evaluate it. -/
def tab {α : Type} {n : Nat} (f : Fin n → α) : Vector α n := ⟨⟨List.ofFn f⟩, by simp⟩

@[simp] theorem getElem_tab {α : Type} {n : Nat} (f : Fin n → α) (i : Nat) (h : i < n) :
    (tab f)[i] = f ⟨i, h⟩ := by
  simp [tab]

/-- The table `v` with the entry at place `i` replaced by `x`. -/
def put {α : Type} {n : Nat} (v : Vector α n) (i : Fin n) (x : α) : Vector α n :=
  tab fun j => if j = i then x else v[j]

@[simp] theorem getElem_put {α : Type} {n : Nat} (v : Vector α n) (i : Fin n) (x : α) (j : Nat) (h : j < n) :
    (put v i x)[j] = if (⟨j, h⟩ : Fin n) = i then x else v[j] := by
  simp [put]

/-- Two tables with the same entries are the same table. -/
theorem table_ext {α : Type} {n : Nat} {v w : Vector α n} (h : ∀ i : Fin n, v[i] = w[i]) : v = w := by
  ext i hi
  exact h ⟨i, hi⟩

end Sys2Proof
end

