-- ==== Sys2Proof/Syntax.lean ====
section
/-! DEFINITION. The commands and events of the DV2408: one constructor per row of spec/opcode_table.json. -/

namespace Sys2Proof

/-- The items of an indicator line that the row INDICATOR_WRITE names (11, R170; 12, R184, page 6): offset 0
source, 1 host level bit, 2 on level, 3 off level, 5 flags, 6 current level (read-only). Offset 4, the fade
interval, is the row FADE_INTERVAL_WRITE. -/
inductive IndicatorItem where
  | source | hostBit | onLevel | offLevel | flags | currentLevel
  deriving DecidableEq, Repr

/-- The commands. A command that the host writes to CMD (START to UNKNOWN_CMD) takes its arguments from ARG0
and ARG1 as they stand (7, R120), so it has no operand here. -/
inductive Instr where
  /-- The byte 0x01 written to CMD (2, R28). -/
  | start
  /-- The byte 0x02 written to CMD (2, R29). -/
  | stop
  /-- The byte 0x03 written to CMD (7, R126). -/
  | commit
  /-- The byte 0x04 written to CMD (4, R72). -/
  | recal
  /-- The byte 0x05 written to CMD (7, R128). -/
  | trim
  /-- The byte 0x06 written to CMD (10, R163). -/
  | doze
  /-- The byte 0x07 written to CMD (7, R127). -/
  | wake
  /-- The byte 0x08 written to CMD (6, R114). -/
  | flush
  /-- The byte 0x09 written to CMD (7, R129). -/
  | abort
  /-- The byte 0x0A written to CMD (7, R130). -/
  | reset
  /-- A byte that names no command, written to CMD (7, R124). -/
  | unknownCmd (code : Byte)
  /-- The end of the write transaction that carried an accepted warm RESET (7, R131, R132). -/
  | warmReset
  /-- The end of the write transaction that carried an accepted cold RESET (7, R131, R133). -/
  | coldReset
  /-- RESETn is driven low (12, R185). -/
  | resetnAssert
  /-- RESETn is released, or the supply becomes valid, with ADDR high or low (12, R185, R178). -/
  | resetnRelease (addrHigh : Bool)
  /-- A byte written to 0x03 (12, R182). -/
  | stickyFlagsWrite (value : Byte)
  /-- A byte written to 0x0A (6, R104). -/
  | eventFilterWrite (value : Byte)
  /-- A byte written to 0x0B (6, R115). -/
  | attnModeWrite (value : Byte)
  /-- A byte written to 0x1F (12, R181). -/
  | pageSelectorWrite (value : Byte)
  /-- A byte written at the address page 6 gives to an item of a line (11, R170). -/
  | indicatorWrite (line : LineId) (item : IndicatorItem) (value : Byte)
  /-- A byte written at the address page 6 gives to the fade interval of a line (11, R174). -/
  | fadeIntervalWrite (line : LineId) (value : Byte)
  /-- A byte written at the address the register pointer names (12, R179). -/
  | registerWrite (value : Byte)
  /-- The first data byte of a write transaction (12, R179). -/
  | registerPointer (value : Byte)
  /-- A read of 0x10 (6, R110). -/
  | hold
  /-- A read of 0x13 (6, R111). -/
  | pop
  /-- A read at the address the register pointer names (12, R180, R183). -/
  | latchedFieldRead
  /-- The round timer expires (2, R23). -/
  | roundTimerExpiry
  /-- A conversion ends; the threshold is crossed after `cycles` cycles, unless the ceiling comes first (1, R1). -/
  | conversion (cycles : Nat)
  /-- The fade timer of a line expires (11, R173). -/
  | fadeTimerExpiry (line : LineId)
  /-- The 20 us ATTN pulse timer expires (6, R117). -/
  | pulseTimerExpiry
  /-- A 1 ms indicator frame starts (11, R175). -/
  | pwmFrame
  /-- The start-up time ends (12, R185). -/
  | startUpTimeEnd
  deriving DecidableEq, Repr

end Sys2Proof
end

