-- ==== Sys2Proof/Decode.lean ====
section
/-! DEFINITION. The decoder. The DV2408 is a block that takes commands; no row of spec/opcode_table.json gives
bits ("fields" is empty for all 32, and there is no "fixed"), so no word spells a command. -/

namespace Sys2Proof

/-- The command a word spells by the table's bits. The table gives no row bits, so there is none. -/
def decodeTableWord (_nbits _w : Nat) : Option Instr := none

end Sys2Proof
end

