-- ==== Sys2Proof/Config.lean ====
section
/-! DEFINITION. The one free value of the model: a choice the manual leaves to the part. -/

namespace Sys2Proof.Config

/-- DESIGN CHOICE (log 3, safe). Whether the part answers the n-th transaction that begins on the bus in a
start-up time. R185: "A transaction that begins before that moment may be left unacknowledged". No body: nothing can be
proved of its values. -/
opaque startUpAnswers : Nat → Bool

end Sys2Proof.Config
end

