-- ==== Sys2Proof/Machine/Blocks.lean ====
section
/-! DEFINITION. The state each of the nine blocks holds (00_scope.md, section 2), as plain data. -/

namespace Sys2Proof.Machine

/-! ## The names the manual fixes -/

/-- Controller modes (2, R20). -/
inductive Mode where
  | stopped | active | doze | trim
  deriving DecidableEq, Repr

/-- Round kinds (2, R22). -/
inductive RoundKind where
  | active | doze
  deriving DecidableEq, Repr

/-- Key states (3, R38). -/
inductive KeyState where
  | off | cal | idle | prox | detect | pressed | suppressed | fault
  deriving DecidableEq, Repr

/-- Fault kinds (3, R37; 6, R102). -/
inductive FaultKind where
  | none | openCircuit | shorted | calUnstable
  deriving DecidableEq, Repr

/-- Trim statuses (3, R37; 9, R155). -/
inductive TrimStatus where
  | none | ok | lowLimit | highLimit | failed
  deriving DecidableEq, Repr

/-- The outcome of a burst, and of a measurement (1, R4). -/
inductive Verdict where
  | valid | noisy | openCircuit | shorted
  deriving DecidableEq, Repr

/-- Group kinds (5, R80). -/
inductive GroupKind where
  | none | exclusive | slider | wheel
  deriving DecidableEq, Repr

/-- Event kinds that can stand in the queue (6, R101). NONE is never stored, so it is not one of them. -/
inductive EventKind where
  | keyDown | keyUp | proxOn | proxOff | groupTouch | groupMove | groupRelease
  | calDone | rebase | fault | mode | cmdDone | overflow
  deriving DecidableEq, Repr

/-- Causes of KEY_UP and GROUP_RELEASE (6, R102). -/
inductive ReleaseCause where
  | normal | maxOn | fault | stop | doze | config | recal
  deriving DecidableEq, Repr

/-- Causes of MODE (6, R102). -/
inductive ModeCause where
  | command | inactivity | wakeKey | config | recal | trimEnd
  deriving DecidableEq, Repr

/-- Result codes (7, R121). -/
inductive ResultCode where
  | none | pending | ok | wrongMode | emptyList | badArg | invalidConfig | aborted | nothingPending | unknownCmd
  deriving DecidableEq, Repr

/-- The ten commands (7, section 7.3). -/
inductive CommandName where
  | start | stop | commit | recal | trim | doze | wake | flush | abort | reset
  deriving DecidableEq, Repr

/-- Hold states of the queue port (6, section 6.6). -/
inductive HoldState where
  | free | held | void
  deriving DecidableEq, Repr

/-- ATTN modes (6, R115). -/
inductive AttnMode where
  | off | level | pulse
  deriving DecidableEq, Repr

/-- The two reset commands (7, R130). -/
inductive ResetKind where
  | warm | cold
  deriving DecidableEq, Repr

/-- Who asked for a measurement (1, R7). -/
inductive Requester where
  | scan | trim
  deriving DecidableEq, Repr

/-- RESETn held low; released, in the start-up time; or answering transactions (12, R185). -/
inductive Power where
  | heldInReset | startUp | answering
  deriving DecidableEq, Repr

/-- What an indicator line follows (11, R170). -/
inductive LineSource where
  | off | host | key (c : Channel) | group (g : GroupId)
  deriving DecidableEq, Repr

/-! ## Configuration (8, R134): the fields in their stored forms (R135) -/

/-- The global parameters (8, R134). -/
structure Globals where
  calSamples : Byte
  calSpread : BitVec 16
  driftInterval : Byte
  driftStep : Byte
  negLimit : Byte
  negRounds : Byte
  noiseLimit : BitVec 16
  hopSet : BitVec 5
  hopRetries : Byte
  faultRounds : Byte
  roundPeriod : Byte
  dozePeriod : Byte
  dozeAfter : Byte
  targetLo : BitVec 16
  targetHi : BitVec 16
  deriving DecidableEq, Repr

/-- The stored scan list: an entry count and 24 entries (8, R134). -/
structure ScanEntries where
  count : Byte
  entries : Vector Byte 24
  deriving DecidableEq, Repr

/-- A channel configuration (8, R134, R135). -/
structure ChannelConfig where
  electrodes : BitVec 24
  trim : BitVec 6
  burst : Byte
  ceiling : BitVec 16
  floor : BitVec 16
  touch : Byte
  release : Byte
  prox : Byte
  downDebounce : Byte
  upDebounce : Byte
  maxOn : Byte
  wake : Bool
  deriving DecidableEq, Repr

/-- A group definition (5, R80; 8, R134). -/
structure GroupDef where
  kind : Byte
  count : Byte
  members : Vector Byte 8
  moveThreshold : Byte
  deriving DecidableEq, Repr

/-- One copy of the configuration (8, R134). -/
structure Configuration where
  globals : Globals
  scan : ScanEntries
  channels : Vector ChannelConfig 24
  groups : Vector GroupDef 6
  deriving DecidableEq, Repr

/-- The configuration store (8, R134, R139). -/
structure ConfigStore where
  staging : Configuration
  live : Configuration
  snapshot : Option Configuration
  deriving DecidableEq, Repr

/-! ## Measurement engine (1) -/

/-- The result of a measurement (1, R5). -/
structure MeasResult where
  channel : Channel
  verdict : Verdict
  mean : Nat
  deriving DecidableEq, Repr

/-- A measurement in progress: the values read when the request was taken (1, R8), the retries remaining
(R12) and the counts of the burst in progress, oldest first (R3). -/
structure Measurement where
  channel : Channel
  requester : Requester
  electrodes : BitVec 24
  trim : BitVec 6
  burstLength : Nat
  ceiling : Nat
  floor : Nat
  noiseLimit : Nat
  hopSet : BitVec 5
  retries : Nat
  counts : List Nat
  deriving DecidableEq, Repr

/-- The engine: a hop index per channel (1, R11), and the measurement in progress; without one it is IDLE (R6). -/
structure Engine where
  hop : Vector Hop 24
  current : Option Measurement
  deriving DecidableEq, Repr

/-! ## Scan controller (2, 10) -/

/-- A round in flight: its kind, its measured channels and its result set. The scan position is the place
after the results received so far (2, R25). -/
structure Round where
  kind : RoundKind
  measured : List Channel
  results : List MeasResult
  deriving DecidableEq, Repr

/-- The scan controller (2, section 2.2). The round timer is stopped, or running with the period in ms that it
was set to. -/
structure ScanController where
  mode : Mode
  round : Option Round
  timer : Option Nat
  due : Bool
  counter : BitVec 16
  inactivity : Nat
  overrun : Bool
  deriving DecidableEq, Repr

/-! ## Detection unit (3, 4, 5) -/

/-- The calibration accumulator (4, R63). -/
structure Accumulator where
  sum : Nat
  samples : Nat
  smallest : Nat
  largest : Nat
  attempt : Nat
  deriving DecidableEq, Repr

/-- A key record (3, R37). -/
structure KeyRecord where
  state : KeyState
  baseline : Nat
  lastCount : Nat
  lastDelta : Int
  debounce : Nat
  release : Nat
  onDuration : Nat
  faultCount : Nat
  faultKind : FaultKind
  near : Bool
  drift : Nat
  negative : Nat
  acc : Accumulator
  trimStatus : TrimStatus
  deriving DecidableEq, Repr

/-- A group runtime record (5, R81); `none` is the position NONE. -/
structure GroupRun where
  touched : Bool
  position : Option Byte
  reported : Option Byte
  deriving DecidableEq, Repr

/-! ## Event queue (6) -/

/-- An event record (6, R101). -/
structure EventRecord where
  kind : EventKind
  index : Byte
  valueA : Byte
  valueB : Byte
  deriving DecidableEq, Repr

/-- The event queue: records oldest first, the hold, the lost count, the filter, the ATTN mode, and whether an
ATTN pulse is in progress (6, R105 to R117). -/
structure EventQueue where
  records : List EventRecord
  hold : HoldState
  lost : Nat
  filter : BitVec 7
  attnMode : AttnMode
  pulse : Bool
  deriving DecidableEq, Repr

/-! ## Command unit (7) -/

/-- The report registers (7, R121). -/
structure Report where
  code : Byte
  result : ResultCode
  detail : Byte
  deriving DecidableEq, Repr

/-- What a command in progress still has to do. A waiting RECAL keeps the waiting set, and how many of its
targets have left CAL for FAULT (4, R75). -/
inductive Work where
  | commit
  | trim
  | recal (waiting : List Channel) (faulted : Nat)
  deriving DecidableEq, Repr

/-- The command in progress, with the copies of its arguments (7, R120, R122). -/
structure InProgress where
  work : Work
  arg0 : Byte
  arg1 : Byte
  deriving DecidableEq, Repr

/-- The command unit (7, R120 to R131). It is BUSY exactly when a command is in progress. -/
structure CommandUnit where
  arg0 : Byte
  arg1 : Byte
  report : Report
  inProgress : Option InProgress
  rejected : Bool
  pendingReset : Option ResetKind
  deriving DecidableEq, Repr

/-! ## Trim unit (9) -/

/-- The state of a trim in progress (9, R151). `place` is the position in the channel list of the channel whose
measurement is outstanding. -/
structure TrimRun where
  channels : List Channel
  lo : Nat
  hi : Nat
  pass : Nat
  place : Nat
  trial : Vector (BitVec 6) 24
  found : Vector TrimStatus 24
  deriving DecidableEq, Repr

/-! ## Indicator driver (11) -/

/-- An indicator line (11, R170), and the duty and sense of its PWM frame in progress (R175). The fade timer is
stopped, or running with the interval in ms that it was set to. -/
structure IndicatorLine where
  source : LineSource
  hostBit : Bool
  onLevel : BitVec 6
  offLevel : BitVec 6
  fade : BitVec 4
  dozeDark : Bool
  invert : Bool
  level : BitVec 6
  timer : Option Nat
  frameDuty : BitVec 6
  frameInvert : Bool
  deriving DecidableEq, Repr

/-! ## Host port (12) -/

/-- The read latch when it holds a field: the page (`none` for a field of the common region), the address of
its lowest byte, and the copy of its bytes, lowest first (12, R183). -/
structure Latch where
  page : Option Byte
  base : Nat
  copy : List Byte
  deriving DecidableEq, Repr

/-- The two directions of a transaction (12, R179, R180). -/
inductive Direction where
  | write | read
  deriving DecidableEq, Repr

/-- An open transaction addressed to the part. `answered`: the port acknowledged it, and its next byte stands at the
register pointer. `left`: a write transaction not acknowledged, or abandoned by RESETn; the host's next byte would stand
at `next` (12, R185). A read so left has no further byte, since the port sends none (12, R180). -/
inductive Transaction where
  | answered (direction : Direction)
  | left (next : Byte)
  deriving DecidableEq, Repr

/-- The host port (12, R178 to R185). `transaction`: the one open on the bus, if any (R179, R180, R185, log 13).
`sent` is the model's own: the byte sent for the last read (log 6). -/
structure HostPort where
  busAddress : BitVec 7
  pointer : Byte
  page : Byte
  latch : Option Latch
  writeIgnored : Bool
  transaction : Option Transaction
  sent : Option Byte
  deriving DecidableEq, Repr

end Sys2Proof.Machine
end

