-- ==== Sys2Proof/Machine/Defaults.lean ====
section
/-! DEFINITION. The values each block takes at power-on and RESETn release. -/

namespace Sys2Proof.Machine

/-- Default global parameters (8, R138). -/
def Globals.default : Globals where
  calSamples := 8
  calSpread := 64
  driftInterval := 16
  driftStep := 1
  negLimit := 20
  negRounds := 10
  noiseLimit := 48
  hopSet := 0b11111
  hopRetries := 2
  faultRounds := 4
  roundPeriod := 20
  dozePeriod := 10
  dozeAfter := 0
  targetLo := 480
  targetHi := 560

/-- The default channel configuration (8, R138): burst code 1 names 8 (12, R184); channels 0 to 19 have the
electrode set {Sn}, channels 20 to 23 the empty one. -/
def ChannelConfig.default (c : Channel) : ChannelConfig where
  electrodes := if c.val < 20 then 1#24 <<< c.val else 0
  trim := 16
  burst := 1
  ceiling := 1023
  floor := 16
  touch := 40
  release := 20
  prox := 0
  downDebounce := 2
  upDebounce := 2
  maxOn := 0
  wake := false

/-- The default group definition (8, R138). The member entries are DESIGN CHOICE 0 (log 7). -/
def GroupDef.default : GroupDef where
  kind := 0
  count := 0
  members := tab fun _ => 0
  moveThreshold := 1

/-- The default configuration (8, R138). The scan-list entries are DESIGN CHOICE 0 (log 7). -/
def Configuration.default : Configuration where
  globals := Globals.default
  scan := { count := 0, entries := tab fun _ => 0 }
  channels := tab ChannelConfig.default
  groups := tab fun _ => GroupDef.default

/-- The store at power-on (8, R138). -/
def ConfigStore.powerOn : ConfigStore where
  staging := Configuration.default
  live := Configuration.default
  snapshot := none

/-- The engine at power-on: every hop index H0, no measurement (1, R16). -/
def Engine.powerOn : Engine where
  hop := tab fun _ => 0
  current := none

/-- The scan controller at power-on (2, R36). -/
def ScanController.powerOn : ScanController where
  mode := .stopped
  round := none
  timer := none
  due := false
  counter := 0
  inactivity := 0
  overrun := false

/-- An empty accumulator, attempt 1 (3, R62). Its smallest and largest are DESIGN CHOICE 0 (log 8). -/
def Accumulator.empty : Accumulator where
  sum := 0
  samples := 0
  smallest := 0
  largest := 0
  attempt := 1

/-- A key record at power-on (3, R62). -/
def KeyRecord.powerOn : KeyRecord where
  state := .off
  baseline := 0
  lastCount := 0
  lastDelta := 0
  debounce := 0
  release := 0
  onDuration := 0
  faultCount := 0
  faultKind := .none
  near := false
  drift := 0
  negative := 0
  acc := Accumulator.empty
  trimStatus := .none

/-- A cleared group runtime record (5, R100). -/
def GroupRun.cleared : GroupRun where
  touched := false
  position := none
  reported := none

/-- The event queue at power-on: empty, FREE, all classes enabled, LEVEL (6, R119). -/
def EventQueue.powerOn : EventQueue where
  records := []
  hold := .free
  lost := 0
  filter := 0b1111111
  attnMode := .level
  pulse := false

/-- The report after power-on and both reset commands (7, R121). -/
def Report.cleared : Report where
  code := 0
  result := .none
  detail := 0

/-- The command unit after power-on and both reset commands (7, R120 to R122, R125, R132). -/
def CommandUnit.powerOn : CommandUnit where
  arg0 := 0
  arg1 := 0
  report := Report.cleared
  inProgress := none
  rejected := false
  pendingReset := none

/-- An indicator line at power-on (11, R176): dark, and driven high in its frame (R176, log 11). -/
def IndicatorLine.powerOn : IndicatorLine where
  source := .off
  hostBit := false
  onLevel := 0
  offLevel := 0
  fade := 0
  dozeDark := false
  invert := false
  level := 0
  timer := none
  frameDuty := 0
  frameInvert := false

/-- The bus address that ADDR selects (12, R178). -/
def busAddressOf (addrHigh : Bool) : BitVec 7 := if addrHigh then 0x2D else 0x2C

/-- The host port at power-on with ADDR at the given level (12, R185). -/
def HostPort.powerOn (address : BitVec 7) : HostPort where
  busAddress := address
  pointer := 0
  page := 0
  latch := none
  writeIgnored := false
  transaction := none
  sent := none

end Sys2Proof.Machine
end

