-- ==== Sys2Proof/Machine/State.lean ====
section
/-! DEFINITION. The state of the DV2408, and its value after reset. -/

namespace Sys2Proof.Machine

/-- Reasons the part stops with a fault. The spec gives none: a key's FAULT, an ignored write and a refused
command are effects on the state. So there is no constructor, and no command faults. -/
inductive Fault where
  deriving DecidableEq, Repr

/-- Reasons a command has no meaning here. -/
inductive Refusal where
  /-- Raised by an arm of `exec` whose command has no meaning yet (safe: the run stops). No arm raises it. -/
  | notModelled (mnemonic : String)
  deriving DecidableEq, Repr

/-- The state of the part, block by block (00_scope.md, section 2), with the queue of the commands that are
waiting. `freeDraws` and `pending` are the model's own fields (log 3, log 1). -/
structure State where
  power : Power
  port : HostPort
  store : ConfigStore
  engine : Engine
  scan : ScanController
  keys : Vector KeyRecord 24
  groups : Vector GroupRun 6
  queue : EventQueue
  command : CommandUnit
  trimRun : Option TrimRun
  lines : Vector IndicatorLine 8
  freeDraws : Nat
  pending : List Instr
  deriving DecidableEq, Repr

/-- The state after power-on or the release of RESETn: every block at its power-on values, and the start-up
time over (log 4). ADDR low is a DESIGN CHOICE (log 5). -/
def State.reset : State where
  power := .answering
  port := HostPort.powerOn (busAddressOf false)
  store := ConfigStore.powerOn
  engine := Engine.powerOn
  scan := ScanController.powerOn
  keys := tab fun _ => KeyRecord.powerOn
  groups := tab fun _ => GroupRun.cleared
  queue := EventQueue.powerOn
  command := CommandUnit.powerOn
  trimRun := none
  lines := tab fun _ => IndicatorLine.powerOn
  freeDraws := 0
  pending := []

/-! One updater per field, so that an event's effect names the blocks it changes. -/

def State.withPower (s : State) (x : Power) : State := { s with power := x }
def State.withPort (s : State) (x : HostPort) : State := { s with port := x }
def State.withStore (s : State) (x : ConfigStore) : State := { s with store := x }
def State.withEngine (s : State) (x : Engine) : State := { s with engine := x }
def State.withScan (s : State) (x : ScanController) : State := { s with scan := x }
def State.withKeys (s : State) (x : Vector KeyRecord 24) : State := { s with keys := x }
def State.withGroups (s : State) (x : Vector GroupRun 6) : State := { s with groups := x }
def State.withQueue (s : State) (x : EventQueue) : State := { s with queue := x }
def State.withCommand (s : State) (x : CommandUnit) : State := { s with command := x }
def State.withTrimRun (s : State) (x : Option TrimRun) : State := { s with trimRun := x }
def State.withLines (s : State) (x : Vector IndicatorLine 8) : State := { s with lines := x }
def State.withFreeDraws (s : State) (x : Nat) : State := { s with freeDraws := x }
def State.withPending (s : State) (x : List Instr) : State := { s with pending := x }

end Sys2Proof.Machine
end

