-- ==== Sys2Proof/WellFormed.lean ====
section
/-! DEFINITION. Which terms of `Instr` stand for an event the part can meet. `exec` is total: it gives the
terms refused here an effect too (the effect of the byte written, or of the count clamped to the ceiling). -/

namespace Sys2Proof

/-- The code names one of the ten commands (7, R124, check 1). -/
def isCommandCode (code : Byte) : Bool :=
  decide (1 ≤ code.toNat) && decide (code.toNat ≤ 10)

/-- No conversion runs for more cycles than the largest ceiling, 4095 (1, R1; 8, R137, check V6). -/
def isCycleCount (cycles : Nat) : Bool := decide (cycles ≤ 4095)

/-- The operands are ones the row can carry: an unknown command's code names no command (R124), and a
conversion's cycles are a count (R1). Every other operand's type holds valid values only. -/
def Instr.wellFormed : Instr → Bool
  | .start => true
  | .stop => true
  | .commit => true
  | .recal => true
  | .trim => true
  | .doze => true
  | .wake => true
  | .flush => true
  | .abort => true
  | .reset => true
  | .unknownCmd code => !isCommandCode code
  | .warmReset => true
  | .coldReset => true
  | .resetnAssert => true
  | .resetnRelease _ => true
  | .stickyFlagsWrite _ => true
  | .eventFilterWrite _ => true
  | .attnModeWrite _ => true
  | .pageSelectorWrite _ => true
  | .indicatorWrite _ _ _ => true
  | .fadeIntervalWrite _ _ => true
  | .registerWrite _ => true
  | .registerPointer _ => true
  | .hold => true
  | .pop => true
  | .latchedFieldRead => true
  | .roundTimerExpiry => true
  | .conversion cycles => isCycleCount cycles
  | .fadeTimerExpiry _ => true
  | .pulseTimerExpiry => true
  | .pwmFrame => true
  | .startUpTimeEnd => true

end Sys2Proof
end

