-- ==== Sys2Proof/Machine/Operands.lean ====
section
/-! DEFINITION. The codes of the manual, and how the stored configuration fields are read: the scan list, the
member lists, the hop set, the burst, the periods. -/

namespace Sys2Proof.Machine

/-! ## Codes -/

/-- A number below 256 as a byte. -/
def idByte {n : Nat} (i : Fin n) : Byte := BitVec.ofNat 8 i.val

/-- Mode codes (2, R20). -/
def Mode.code : Mode → Byte
  | .stopped => 0
  | .active => 1
  | .doze => 2
  | .trim => 3

/-- State codes (3, R38). -/
def KeyState.code : KeyState → Byte
  | .off => 0
  | .cal => 1
  | .idle => 2
  | .prox => 3
  | .detect => 4
  | .pressed => 5
  | .suppressed => 6
  | .fault => 7

/-- Fault kind codes (6, R102). -/
def FaultKind.code : FaultKind → Byte
  | .none => 0
  | .openCircuit => 1
  | .shorted => 2
  | .calUnstable => 3

/-- Trim status codes (12, R184, pages 4 and 5). -/
def TrimStatus.code : TrimStatus → Byte
  | .none => 0
  | .ok => 1
  | .lowLimit => 2
  | .highLimit => 3
  | .failed => 4

/-- Event kind codes (6, R101). -/
def EventKind.code : EventKind → Byte
  | .keyDown => 0x01
  | .keyUp => 0x02
  | .proxOn => 0x03
  | .proxOff => 0x04
  | .groupTouch => 0x05
  | .groupMove => 0x06
  | .groupRelease => 0x07
  | .calDone => 0x08
  | .rebase => 0x09
  | .fault => 0x0A
  | .mode => 0x0B
  | .cmdDone => 0x0C
  | .overflow => 0x0D

/-- Cause codes of KEY_UP and GROUP_RELEASE (6, R102). -/
def ReleaseCause.code : ReleaseCause → Byte
  | .normal => 0
  | .maxOn => 1
  | .fault => 2
  | .stop => 3
  | .doze => 4
  | .config => 5
  | .recal => 6

/-- Cause codes of MODE (6, R102). -/
def ModeCause.code : ModeCause → Byte
  | .command => 0
  | .inactivity => 1
  | .wakeKey => 2
  | .config => 3
  | .recal => 4
  | .trimEnd => 5

/-- Result codes (7, R121). -/
def ResultCode.code : ResultCode → Byte
  | .none => 0
  | .pending => 1
  | .ok => 2
  | .wrongMode => 3
  | .emptyList => 4
  | .badArg => 5
  | .invalidConfig => 6
  | .aborted => 7
  | .nothingPending => 8
  | .unknownCmd => 9

/-- Command codes (7, section 7.3). -/
def CommandName.code : CommandName → Byte
  | .start => 0x01
  | .stop => 0x02
  | .commit => 0x03
  | .recal => 0x04
  | .trim => 0x05
  | .doze => 0x06
  | .wake => 0x07
  | .flush => 0x08
  | .abort => 0x09
  | .reset => 0x0A

/-- The command a code names; none outside 0x01 to 0x0A (7, R124, check 1). -/
def commandOf (code : Byte) : Option CommandName :=
  [CommandName.start, .stop, .commit, .recal, .trim, .doze, .wake, .flush, .abort, .reset].find?
    fun n => n.code == code

/-- ATTN mode codes (6, R115). -/
def AttnMode.code : AttnMode → Byte
  | .off => 0
  | .level => 1
  | .pulse => 2

/-- The ATTN mode a byte names; none for 3 to 255 (6, R115). -/
def attnModeOf (b : Byte) : Option AttnMode := [AttnMode.off, .level, .pulse].find? fun m => m.code == b

/-- Source codes of page 6 (12, R184). -/
def LineSource.code : LineSource → Byte
  | .off => 0x00
  | .host => 0x01
  | .key c => BitVec.ofNat 8 (0x40 + c.val)
  | .group g => BitVec.ofNat 8 (0x80 + g.val)

/-- The source a byte names; none where it names no source, no channel or no group (11, R170; 12, R184). -/
def lineSourceOf (b : Byte) : Option LineSource :=
  if b = 0x00 then some .off
  else if b = 0x01 then some .host
  else if h : 0x40 ≤ b.toNat ∧ b.toNat < 0x58 then some (.key ⟨b.toNat - 0x40, by omega⟩)
  else if h : 0x80 ≤ b.toNat ∧ b.toNat < 0x86 then some (.group ⟨b.toNat - 0x80, by omega⟩)
  else none

/-- Group kind codes (12, R184, pages 3 and 11). -/
def groupKindOf (b : Byte) : Option GroupKind :=
  if b = 0 then some .none
  else if b = 1 then some .exclusive
  else if b = 2 then some .slider
  else if b = 3 then some .wheel
  else none

/-- The reset a RESET argument asks for (7, R130). -/
def resetKindOf (arg : Byte) : Option ResetKind :=
  if arg = 0 then some .warm else if arg = 1 then some .cold else none

/-! ## Reading the configuration -/

/-- The channel a stored byte names; none for 24 to 255 (8, R137, check V2). -/
def channelOf (b : Byte) : Option Channel :=
  if h : b.toNat < 24 then some ⟨b.toNat, h⟩ else none

/-- Every channel, in number order. -/
def allChannels : List Channel := List.finRange 24

/-- Every group, in index order. -/
def allGroups : List GroupId := List.finRange 6

/-- The scan list: the entries within the count, in order (2, R18). -/
def Configuration.scanList (cfg : Configuration) : List Channel :=
  (cfg.scan.entries.toList.take cfg.scan.count.toNat).filterMap channelOf

/-- A channel is listed when it appears in the scan list (2, R18). -/
def Configuration.listed (cfg : Configuration) (c : Channel) : Bool := cfg.scanList.contains c

/-- A group's kind (5, R80); a code that names no kind counts as NONE, and validation keeps it out of the live
copy (8, R137, check V12). -/
def GroupDef.groupKind (d : GroupDef) : GroupKind := (groupKindOf d.kind).getD .none

/-- A group's member list: the entries within the count, in member order (5, R80). -/
def GroupDef.memberList (d : GroupDef) : List Channel :=
  (d.members.toList.take d.count.toNat).filterMap channelOf

/-- The kind is SLIDER or WHEEL. -/
def GroupDef.hasPosition (d : GroupDef) : Bool :=
  d.groupKind == .slider || d.groupKind == .wheel

/-- The channel's group: the group of kind other than NONE whose member list holds it, or none (8, R143). -/
def Configuration.groupOf (cfg : Configuration) (c : Channel) : Option GroupId :=
  allGroups.find? fun g => cfg.groups[g].groupKind != .none && cfg.groups[g].memberList.contains c

/-- The channel is a member of a SLIDER or WHEEL group (3, R54). -/
def Configuration.sliderMember (cfg : Configuration) (c : Channel) : Bool :=
  allGroups.any fun g => cfg.groups[g].hasPosition && cfg.groups[g].memberList.contains c

/-- The measured channels of a round: the whole list, or its wake channels, in scan-list order (2, R19). -/
def Configuration.measuredChannels (cfg : Configuration) : RoundKind → List Channel
  | .active => cfg.scanList
  | .doze => cfg.scanList.filter fun c => cfg.channels[c].wake

/-- The round period or doze period, in ms (2, R21). -/
def Configuration.period (cfg : Configuration) : RoundKind → Nat
  | .active => cfg.globals.roundPeriod.toNat
  | .doze => 10 * cfg.globals.dozePeriod.toNat

/-- The number of conversions a burst code names: 4, 8, 16 or 32 (1, R3; 12, R184). Validation keeps other codes
out of the live copy (8, R137, check V5). -/
def burstLengthOf (code : Byte) : Nat := 4 * 2 ^ (code.toNat % 4)

/-! ## Hop frequencies (1, R10) -/

/-- The order H0, H1, H2, H3, H4. -/
def hopOrder : List Hop := [0, 1, 2, 3, 4]

/-- The hop set names the frequency. -/
def inHopSet (set : BitVec 5) (h : Hop) : Bool := set.getLsbD h.val

/-- The lowest enabled frequency; H0 for an empty set, which validation keeps out (8, R137, check V11). -/
def lowestHop (set : BitVec 5) : Hop := (hopOrder.find? (inHopSet set)).getD 0

/-- The next frequency of the set after `h`: the lowest above it, or else the lowest of the set. -/
def nextHop (set : BitVec 5) (h : Hop) : Hop :=
  (hopOrder.find? fun k => decide (h < k) && inHopSet set k).getD (lowestHop set)

end Sys2Proof.Machine
end

