-- ==== Sys2Proof/Machine/Flags.lean ====
section
/-! DEFINITION. The flag bytes of the common region, and the event filter's classes. -/

namespace Sys2Proof.Machine

/-- A bit as the number it adds at a bit position. -/
def bitAt (b : Bool) (position : Nat) : Byte := if b then 1#8 <<< position else 0

/-- At least one key is in FAULT (3, R61). -/
def anyFault (keys : Vector KeyRecord 24) : Bool := allChannels.any fun c => keys[c].state == .fault

/-- The command unit is BUSY: a command is in progress (7, R122). -/
def State.busy (s : State) : Bool := s.command.inProgress.isSome

/-- STATUS (12, R184): mode, BUSY, queue not empty, any key in FAULT. -/
def statusByte (s : State) : Byte :=
  s.scan.mode.code ||| bitAt s.busy 2 ||| bitAt (!s.queue.records.isEmpty) 3 ||| bitAt (anyFault s.keys) 4

/-- The sticky flags (12, R184): OVERRUN, CMD_REJECTED, WRITE_IGNORED. -/
def stickyByte (s : State) : Byte :=
  bitAt s.scan.overrun 0 ||| bitAt s.command.rejected 1 ||| bitAt s.port.writeIgnored 2

/-- The filter position of a kind's class (6, R101; 12, R184); none for OVERFLOW, which has no class. -/
def EventKind.classBit : EventKind → Option Nat
  | .keyDown => some 0
  | .keyUp => some 0
  | .proxOn => some 1
  | .proxOff => some 1
  | .groupTouch => some 2
  | .groupMove => some 2
  | .groupRelease => some 2
  | .calDone => some 3
  | .rebase => some 3
  | .fault => some 4
  | .mode => some 5
  | .cmdDone => some 6
  | .overflow => none

/-- The filter lets the kind through (6, R103). -/
def classEnabled (filter : BitVec 7) (kind : EventKind) : Bool :=
  match kind.classBit with
  | none => true
  | some b => filter.getLsbD b

end Sys2Proof.Machine
end

