-- ==== Sys2Proof/Machine/Ops.lean ====
section
/-! DEFINITION. The operations the events share: records and the queue, changes of mode, the ends of commands,
requests to the measurement engine, the indicator targets, and the bus. -/

namespace Sys2Proof.Machine

/-! ## Event records (6, R101, R102) -/

/-- A number of a record capped at 255 (3, R53). -/
def capByte (d : Int) : Byte := BitVec.ofNat 8 (min 255 d.toNat)

def keyDownRecord (c : Channel) (lastDelta : Int) : EventRecord := ⟨.keyDown, idByte c, capByte lastDelta, 0⟩
def keyUpRecord (c : Channel) (cause : ReleaseCause) : EventRecord := ⟨.keyUp, idByte c, cause.code, 0⟩
def proxOnRecord (c : Channel) : EventRecord := ⟨.proxOn, idByte c, 0, 0⟩
def proxOffRecord (c : Channel) : EventRecord := ⟨.proxOff, idByte c, 0, 0⟩
def groupTouchRecord (g : GroupId) (position : Byte) : EventRecord := ⟨.groupTouch, idByte g, position, 0⟩
def groupMoveRecord (g : GroupId) (position : Byte) : EventRecord := ⟨.groupMove, idByte g, position, 0⟩
def groupReleaseRecord (g : GroupId) (position : Byte) (cause : ReleaseCause) : EventRecord :=
  ⟨.groupRelease, idByte g, position, cause.code⟩
/-- CAL_DONE(OK) with the attempt that succeeded (4, R64). -/
def calDoneOkRecord (c : Channel) (attempt : Nat) : EventRecord := ⟨.calDone, idByte c, 0, BitVec.ofNat 8 attempt⟩
/-- CAL_DONE(FAILED) with 3 (4, R65). -/
def calDoneFailedRecord (c : Channel) : EventRecord := ⟨.calDone, idByte c, 1, 3⟩
def rebaseRecord (c : Channel) : EventRecord := ⟨.rebase, idByte c, 0, 0⟩
def faultRecord (c : Channel) (kind : FaultKind) : EventRecord := ⟨.fault, idByte c, kind.code, 0⟩
/-- MODE; value B is the wake channel, or 0xFF (2, R20). -/
def modeRecord (mode : Mode) (cause : ModeCause) (valueB : Byte) : EventRecord := ⟨.mode, mode.code, cause.code, valueB⟩
def cmdDoneRecord (code : Byte) (result : ResultCode) (detail : Byte) : EventRecord :=
  ⟨.cmdDone, code, result.code, detail⟩
/-- OVERFLOW with the lost count (6, R109). -/
def overflowRecord (lost : Nat) : EventRecord := ⟨.overflow, 0, BitVec.ofNat 8 lost, 0⟩

/-! ## The queue (6) -/

/-- The most records the queue holds (6, R106). -/
def queueCapacity : Nat := 16

/-- A GROUP_MOVE for the group `g` (6, R107). -/
def isMoveOf (g : Byte) (r : EventRecord) : Bool := r.kind == .groupMove && r.index == g

/-- The records with `position` written into the first GROUP_MOVE for `g`; none where there is none. -/
def replaceMove (g position : Byte) : List EventRecord → Option (List EventRecord)
  | [] => none
  | r :: rest =>
    if isMoveOf g r then some ({ r with valueA := position } :: rest)
    else (replaceMove g position rest).map (r :: ·)

/-- The records a coalesced GROUP_MOVE leaves; none where the record does not coalesce. The held head is not
coalesced into (6, R107). -/
def EventQueue.coalesced (q : EventQueue) (r : EventRecord) : Option (List EventRecord) :=
  if r.kind = .groupMove then
    match q.hold, q.records with
    | .held, head :: rest => (replaceMove r.index r.valueA rest).map (head :: ·)
    | _, records => replaceMove r.index r.valueA records
  else none

/-- The record goes to the tail; into an empty queue in PULSE mode it starts or restarts a pulse (6, R105, R117). -/
def EventQueue.append (q : EventQueue) (r : EventRecord) : EventQueue :=
  { q with
    records := q.records ++ [r]
    pulse := q.pulse || (q.records.isEmpty && q.attnMode == .pulse) }

/-- A producer offers a record: filtered (6, R103), coalesced (R107), appended (R105), or dropped and counted
(R108). -/
def EventQueue.offer (q : EventQueue) (r : EventRecord) : EventQueue :=
  if classEnabled q.filter r.kind then
    match q.coalesced r with
    | some records => { q with records := records }
    | none => if q.records.length < queueCapacity then q.append r else { q with lost := min 255 (q.lost + 1) }
  else q

/-- Records offered one after another within an event (6, R105). -/
def EventQueue.offerAll (q : EventQueue) (rs : List EventRecord) : EventQueue := rs.foldl EventQueue.offer q

/-- The held head leaves the queue (6, R111); OVERFLOW fills the freed place (R109); in PULSE mode a pop that
leaves records starts or restarts a pulse (R117). -/
def EventQueue.popHead (q : EventQueue) : EventQueue :=
  let rest := q.records.tail
  let refill := decide (rest.length = 15) && decide (0 < q.lost)
  let records := if refill then rest ++ [overflowRecord q.lost] else rest
  { q with
    records := records
    hold := .free
    lost := if refill then 0 else q.lost
    pulse := q.pulse || (!records.isEmpty && q.attnMode == .pulse) }

/-- FLUSH's steps 1 to 3 (6, R114): every record goes, a hold becomes VOID, the lost count becomes 0. -/
def EventQueue.flushed (q : EventQueue) : EventQueue :=
  { q with
    records := []
    hold := if q.hold = .free then .free else .void
    lost := 0 }

/-- The ATTN line is active (6, R115 to R117). -/
def EventQueue.attnActive (q : EventQueue) : Bool :=
  match q.attnMode with
  | .off => false
  | .level => !q.records.isEmpty
  | .pulse => q.pulse

/-- A record is offered to the queue. -/
def State.offer (s : State) (r : EventRecord) : State := s.withQueue (s.queue.offer r)

/-- Records are offered to the queue, in order. -/
def State.offerAll (s : State) (rs : List EventRecord) : State := s.withQueue (s.queue.offerAll rs)

/-! ## The controller and the command unit -/

/-- The live configuration (8, R134). -/
def State.live (s : State) : Configuration := s.store.live

/-- A change of mode with its MODE record (2, R20). -/
def State.changeMode (s : State) (mode : Mode) (cause : ModeCause) (valueB : Byte) : State :=
  (s.withScan { s.scan with mode := mode }).offer (modeRecord mode cause valueB)

/-- The inactivity count returns to 0 (10, R160). -/
def State.clearInactivity (s : State) : State := s.withScan { s.scan with inactivity := 0 }

/-- The end of a taken command: the report registers if the unit is IDLE, and CMD_DONE (7, R124). -/
def State.endCommand (s : State) (code : Byte) (result : ResultCode) (detail : Byte) : State :=
  (if s.busy then s else s.withCommand { s.command with report := ⟨code, result, detail⟩ }).offer
    (cmdDoneRecord code result detail)

/-- The unit enters BUSY with a command in progress; the report reads PENDING (7, R121, R122), and the arguments
are copied (R120). -/
def State.enterBusy (s : State) (name : CommandName) (work : Work) : State :=
  s.withCommand
    { s.command with
      report := ⟨name.code, .pending, 0⟩
      inProgress := some ⟨work, s.command.arg0, s.command.arg1⟩ }

/-- The unit returns to IDLE (7, R122). -/
def State.leaveBusy (s : State) : State := s.withCommand { s.command with inProgress := none }

/-! ## Requests to the measurement engine (1, R6, R8) -/

/-- The engine takes a request for channel `c` at the trim it names or reads, with the live values. -/
def State.request (s : State) (requester : Requester) (c : Channel) (trim : BitVec 6) : State :=
  let cfg := s.live
  let ch := cfg.channels[c]
  s.withEngine
    { s.engine with
      current := some
        { channel := c
          requester := requester
          electrodes := ch.electrodes
          trim := trim
          burstLength := burstLengthOf ch.burst
          ceiling := ch.ceiling.toNat
          floor := ch.floor.toNat
          noiseLimit := cfg.globals.noiseLimit.toNat
          hopSet := cfg.globals.hopSet
          retries := cfg.globals.hopRetries.toNat
          counts := [] } }

/-- The scan controller's request, at the channel's live trim (1, R8). -/
def State.requestScan (s : State) (c : Channel) : State := s.request .scan c s.live.channels[c].trim

/-- The measurement in progress is abandoned: no result, hop indices as they are (1, R14, R15). -/
def State.abandonMeasurement (s : State) : State := s.withEngine { s.engine with current := none }

/-- The round in flight is abandoned (2, R30). -/
def State.abandonRound (s : State) : State :=
  (s.abandonMeasurement).withScan { s.scan with round := none, due := false }

/-- The sense lines joined to the measurement node; all others are driven low (1, R1, R16). -/
def State.joinedLines (s : State) : BitVec 20 :=
  match s.engine.current with
  | none => 0
  | some m => m.electrodes.setWidth 20

/-! ## Indicator targets (11, R171 to R173) -/

/-- The level a line's source asks for. -/
def State.sourceLevel (s : State) (l : IndicatorLine) : BitVec 6 :=
  match l.source with
  | .off => 0
  | .host => if l.hostBit then l.onLevel else l.offLevel
  | .key c => if s.keys[c].state = .pressed then l.onLevel else l.offLevel
  | .group g => if s.groups[g].touched then l.onLevel else l.offLevel

/-- A line's target level (11, R171). -/
def State.targetLevel (s : State) (l : IndicatorLine) : BitVec 6 :=
  if l.dozeDark = true ∧ s.scan.mode = .doze then 0 else s.sourceLevel l

/-- The fade interval in ms (11, R173). -/
def IndicatorLine.interval (l : IndicatorLine) : Nat := 8 * l.fade.toNat

/-- The line meets a new target (11, R173): a jump at interval 0; else the timer stops when the level is already
there, keeps running when it runs, and starts otherwise. -/
def IndicatorLine.meet (l : IndicatorLine) (target : BitVec 6) : IndicatorLine :=
  if l.fade = 0 then { l with level := target, timer := none }
  else if l.level = target then { l with timer := none }
  else match l.timer with
    | none => { l with timer := some l.interval }
    | some _ => l

/-- The end of an event: every line whose target the event changed meets its new target (11, R172). -/
def State.driveFrom (before after : State) : State :=
  after.withLines <| tab fun i =>
    if before.targetLevel before.lines[i] = after.targetLevel after.lines[i] then after.lines[i]
    else after.lines[i].meet (after.targetLevel after.lines[i])

/-! ## Events inside the part, and bytes on the bus -/

/-- An event inside the part; while RESETn is held low the part does nothing (12, R185). -/
def State.inside (s : State) (f : State → State) : State :=
  if s.power = .heldInReset then s else State.driveFrom s (f s)

/-! ## Transactions on the bus (12, R179, R180, R185) -/

/-- Where the next byte of the open transaction of a direction stands; none where no such transaction is open. -/
def HostPort.place (p : HostPort) (d : Direction) : Option Byte :=
  match p.transaction with
  | some (.answered d') => if d' = d then some p.pointer else none
  | some (.left next) => if d = .write then some next else none
  | none => none

/-- A transaction the port does not acknowledge: nothing is taken or sent. The next byte of a write would stand at `next`,
and is not taken either; a read is over, since no byte of it is sent (12, R180). -/
def State.leave (s : State) (d : Direction) (next : Byte) : State :=
  s.withPort { s.port with
    transaction :=
      match d with
      | .write => some (.left next)
      | .read => none }

/-- A transaction begins with the bytes `f` stands for; `next` is where its next byte stands. It is left unanswered
while RESETn is low, answered or left in the start-up time as the part chooses, by one draw (log 3), and answered
otherwise (12, R185). -/
def State.beginTransaction (s : State) (d : Direction) (next : Byte) (f : State → State) : State :=
  match s.power with
  | .heldInReset => s.leave d next
  | .answering => f s
  | .startUp =>
    let s' := s.withFreeDraws (s.freeDraws + 1)
    if Config.startUpAnswers s.freeDraws then f s' else s'.leave d next

/-- A further byte of the open transaction of a direction: taken, without a draw, where the port acknowledged that
transaction, and not taken where it is a write that was left or abandoned, whatever the power condition since; where
none is open it is no byte of the port's (12, R179, R180, R185). -/
def State.furtherByte (s : State) (d : Direction) (f : State → State) : State :=
  match s.port.transaction with
  | some (.answered d') => if d' = d ∧ s.power ≠ .heldInReset then f s else s
  | some (.left next) => if d = .write then s.leave .write (next + 1) else s
  | none => s

/-- The byte at `address`: a further byte of the open transaction where that stands at `address`, else the first of a
transaction of its own (log 13). -/
def State.onBus (s : State) (d : Direction) (address : Byte) (f : State → State) : State :=
  if s.port.place d = some address then s.furtherByte d f else s.beginTransaction d (address + 1) f

/-- The port after a byte taken or sent at `address`: the pointer stands one further, from 0xFF to 0x00, and the
transaction goes on (12, R179, R180). -/
def State.pointAfter (s : State) (address : Byte) (d : Direction) : State :=
  s.withPort { s.port with pointer := address + 1, transaction := some (.answered d) }

end Sys2Proof.Machine
end

