-- ==== Sys2Proof/Machine/Keys.lean ====
section
/-! DEFINITION. The key record: entry actions, near flag, and the channel step of a round evaluation. -/

namespace Sys2Proof.Machine

/-- A key after a step, with the records the step produces, in order. -/
abbrev KeyOutcome := KeyRecord × List EventRecord

/-! ## Entering a state -/

/-- The fields an entry sets (3, R40). The fault kind of an entry to FAULT is set by the rule that sends the
key there. -/
def KeyRecord.enter (k : KeyRecord) (state : KeyState) : KeyRecord :=
  match state with
  | .off =>
    { k with
      state := .off, debounce := 0, release := 0, onDuration := 0, faultCount := 0, drift := 0, negative := 0,
      faultKind := .none, acc := Accumulator.empty, lastDelta := 0 }
  | .cal =>
    { k with
      state := .cal, debounce := 0, release := 0, onDuration := 0, faultCount := 0, drift := 0, negative := 0,
      faultKind := .none, acc := Accumulator.empty, lastDelta := 0 }
  | .idle => { k with state := .idle, debounce := 0, release := 0, onDuration := 0, negative := 0 }
  | .prox => { k with state := .prox, debounce := 0, release := 0, onDuration := 0 }
  | .detect => { k with state := .detect, debounce := 1, release := 0, onDuration := 0 }
  | .pressed => { k with state := .pressed, debounce := 0, release := 0, onDuration := 0 }
  | .suppressed => { k with state := .suppressed, debounce := 0, release := 0, onDuration := 0 }
  | .fault => { k with state := .fault, debounce := 0, release := 0, onDuration := 0, acc := Accumulator.empty }

/-- An entry with the near-flag rule (3, R39): PROX sets the flag and reports it; IDLE, CAL, FAULT and OFF clear
it and report that; DETECT, PRESSED and SUPPRESSED keep it. -/
def moveKey (c : Channel) (state : KeyState) (k : KeyRecord) : KeyOutcome :=
  let k' := k.enter state
  match state with
  | .prox => if k.near then (k', []) else ({ k' with near := true }, [proxOnRecord c])
  | .detect => (k', [])
  | .pressed => (k', [])
  | .suppressed => (k', [])
  | .idle => if k.near then ({ k' with near := false }, [proxOffRecord c]) else (k', [])
  | .cal => if k.near then ({ k' with near := false }, [proxOffRecord c]) else (k', [])
  | .fault => if k.near then ({ k' with near := false }, [proxOffRecord c]) else (k', [])
  | .off => if k.near then ({ k' with near := false }, [proxOffRecord c]) else (k', [])

/-- KEY_UP, which a SLIDER or WHEEL member does not produce (3, R54). -/
def keyUpRecords (sliderMember : Bool) (c : Channel) (cause : ReleaseCause) : List EventRecord :=
  if sliderMember then [] else [keyUpRecord c cause]

/-- KEY_UP where the key was PRESSED, before the records of a move out of it. -/
def upBefore (sliderMember : Bool) (c : Channel) (cause : ReleaseCause) (k : KeyRecord) (o : KeyOutcome) : KeyOutcome :=
  (o.1, (if k.state = .pressed then keyUpRecords sliderMember c cause else []) ++ o.2)

/-! ## Tests (3, section 3.4) -/

/-- The touch test. -/
def touchTest (ch : ChannelConfig) (d : Int) : Bool := decide ((ch.touch.toNat : Int) ≤ d)

/-- The near test. -/
def nearTest (ch : ChannelConfig) (d : Int) : Bool :=
  ch.prox != 0 && decide ((ch.prox.toNat : Int) ≤ d)

/-- The delta is below the release threshold. -/
def belowRelease (ch : ChannelConfig) (d : Int) : Bool := decide (d < (ch.release.toNat : Int))

/-- "Goes down by the near test" (3, section 3.4). -/
def goDown (ch : ChannelConfig) (c : Channel) (d : Int) (k : KeyRecord) : KeyOutcome :=
  moveKey c (if nearTest ch d then .prox else .idle) k

/-- The touch test holds in IDLE or PROX: DETECT, or PRESSED with a down debounce of 1 (3, R43, R44). -/
def goUp (ch : ChannelConfig) (c : Channel) (k : KeyRecord) : KeyOutcome :=
  moveKey c (if ch.downDebounce = 1 then .pressed else .detect) k

/-! ## Calibration (4, R63 to R65) -/

/-- The accumulator with one more sample. -/
def Accumulator.add (a : Accumulator) (mean : Nat) : Accumulator :=
  { a with
    sum := a.sum + mean
    samples := a.samples + 1
    smallest := if a.samples = 0 then mean else min a.smallest mean
    largest := if a.samples = 0 then mean else max a.largest mean }

/-- The end of an attempt (4, R64, R65). -/
def endAttempt (g : Globals) (c : Channel) (k : KeyRecord) : KeyOutcome :=
  if k.acc.largest - k.acc.smallest ≤ g.calSpread.toNat then
    let o := moveKey c .idle
      { k with baseline := k.acc.sum / k.acc.samples, acc := Accumulator.empty }
    (o.1, o.2 ++ [calDoneOkRecord c k.acc.attempt])
  else if k.acc.attempt < 3 then
    ({ k with acc := { Accumulator.empty with attempt := k.acc.attempt + 1 } }, [])
  else
    let o := moveKey c .fault { k with faultKind := .calUnstable }
    (o.1, [calDoneFailedRecord c] ++ o.2 ++ [faultRecord c .calUnstable])

/-- A VALID result of a key in CAL (4, R63). -/
def calibrationSample (g : Globals) (c : Channel) (mean : Nat) (k : KeyRecord) : KeyOutcome :=
  let k' := { k with acc := k.acc.add mean }
  if g.calSamples.toNat ≤ k'.acc.samples then endAttempt g c k' else (k', [])

/-! ## Drift and rebase (4, R68 to R70) -/

/-- The baseline moved toward the mean by at most `step` (4, R68). -/
def driftToward (baseline mean step : Nat) : Nat :=
  if mean < baseline then baseline - min step (baseline - mean) else baseline + min step (mean - baseline)

/-- The drift step (4, R68). -/
def driftStep (g : Globals) (mean : Nat) (k : KeyRecord) : KeyRecord :=
  if g.driftInterval.toNat ≤ k.drift + 1 then
    { k with drift := 0, baseline := driftToward k.baseline mean g.driftStep.toNat }
  else { k with drift := k.drift + 1 }

/-- The negative counter after the anti-touch check (4, R69). -/
def negativeAfter (g : Globals) (d : Int) (k : KeyRecord) : Nat :=
  if d ≤ -(g.negLimit.toNat : Int) then k.negative + 1 else 0

/-- A key that stays in IDLE: the anti-touch check (4, R69), then a rebase (R70) or the drift step (R68). -/
def quietStep (g : Globals) (c : Channel) (mean : Nat) (d : Int) (k : KeyRecord) : KeyOutcome :=
  if g.negRounds.toNat ≤ negativeAfter g d k then
    ({ k with baseline := mean, lastDelta := 0, drift := 0, negative := 0 }, [rebaseRecord c])
  else (driftStep g mean { k with negative := negativeAfter g d k }, [])

/-! ## The step of a VALID result, state by state -/

/-- IDLE (3, R43). -/
def idleStep (g : Globals) (ch : ChannelConfig) (c : Channel) (mean : Nat) (d : Int) (k : KeyRecord) : KeyOutcome :=
  if touchTest ch d then goUp ch c k
  else if nearTest ch d then moveKey c .prox k
  else quietStep g c mean d k

/-- PROX (3, R44). -/
def proxStep (ch : ChannelConfig) (c : Channel) (d : Int) (k : KeyRecord) : KeyOutcome :=
  if touchTest ch d then goUp ch c k
  else if nearTest ch d then (k, [])
  else moveKey c .idle k

/-- DETECT (3, R45). -/
def detectStep (ch : ChannelConfig) (c : Channel) (d : Int) (k : KeyRecord) : KeyOutcome :=
  if touchTest ch d then
    let k' := { k with debounce := k.debounce + 1 }
    if ch.downDebounce.toNat ≤ k'.debounce then moveKey c .pressed k' else (k', [])
  else goDown ch c d k

/-- PRESSED (3, R46). -/
def pressedStep (ch : ChannelConfig) (sliderMember : Bool) (c : Channel) (d : Int) (k : KeyRecord) : KeyOutcome :=
  if belowRelease ch d then
    let k' := { k with release := k.release + 1 }
    if ch.upDebounce.toNat ≤ k'.release then upBefore sliderMember c .normal k (goDown ch c d k') else (k', [])
  else ({ k with release := 0 }, [])

/-- SUPPRESSED (3, R47). -/
def suppressedStep (ch : ChannelConfig) (c : Channel) (d : Int) (k : KeyRecord) : KeyOutcome :=
  if belowRelease ch d then goDown ch c d k else (k, [])

/-- A VALID result: the fields of R42, then the state's own step. A key in FAULT or OFF does not change
(R48; no round measures a key in OFF, R38). -/
def validStep (g : Globals) (ch : ChannelConfig) (sliderMember : Bool) (c : Channel) (mean : Nat) (k : KeyRecord) :
    KeyOutcome :=
  let d : Int := (k.baseline : Int) - (mean : Int)
  let k₀ := { k with lastCount := mean, faultCount := 0, lastDelta := d }
  match k.state with
  | .off => (k, [])
  | .fault => (k, [])
  | .cal => calibrationSample g c mean { k₀ with lastDelta := 0 }
  | .idle => idleStep g ch c mean d k₀
  | .prox => proxStep ch c d k₀
  | .detect => detectStep ch c d k₀
  | .pressed => pressedStep ch sliderMember c d k₀
  | .suppressed => suppressedStep ch c d k₀

/-- An OPEN or SHORT result of a key not in FAULT (3, R50). -/
def faultStep (g : Globals) (sliderMember : Bool) (c : Channel) (kind : FaultKind) (k : KeyRecord) : KeyOutcome :=
  let k' := { k with faultCount := min 15 (k.faultCount + 1) }
  if g.faultRounds.toNat ≤ k'.faultCount then
    let o := upBefore sliderMember c .fault k (moveKey c .fault { k' with faultKind := kind })
    (o.1, o.2 ++ [faultRecord c kind])
  else (k', [])

/-- The channel step (3, R42 to R50). -/
def channelStep (g : Globals) (ch : ChannelConfig) (sliderMember : Bool) (r : MeasResult) (k : KeyRecord) : KeyOutcome :=
  if k.state = .fault ∨ k.state = .off then (k, [])
  else
    match r.verdict with
    | .valid => validStep g ch sliderMember r.channel r.mean k
    | .noisy => (k, [])
    | .openCircuit => faultStep g sliderMember r.channel .openCircuit k
    | .shorted => faultStep g sliderMember r.channel .shorted k

/-- Max-on (3, R51), for a key PRESSED before and after its channel step. -/
def maxOnStep (ch : ChannelConfig) (sliderMember : Bool) (c : Channel) (k : KeyRecord) : KeyOutcome :=
  let k' := { k with onDuration := min 4080 (k.onDuration + 1) }
  if ch.maxOn ≠ 0 ∧ 16 * ch.maxOn.toNat ≤ k'.onDuration then
    upBefore sliderMember c .maxOn k (moveKey c .cal k')
  else (k', [])

/-- The channel step and then R51, with the records of both in order (3, R55). -/
def keyStage (cfg : Configuration) (r : MeasResult) (k : KeyRecord) : KeyOutcome :=
  let ch := cfg.channels[r.channel]
  let member := cfg.sliderMember r.channel
  let o := channelStep cfg.globals ch member r k
  if k.state = .pressed ∧ o.1.state = .pressed then
    let o' := maxOnStep ch member r.channel o.1
    (o'.1, o.2 ++ o'.2)
  else o

end Sys2Proof.Machine
end

