-- ==== Sys2Proof/Machine/Groups.lean ====
section
/-! DEFINITION. The group stage of a round evaluation: exclusive arbitration, positions, group records. -/

namespace Sys2Proof.Machine

/-! ## Exclusive groups (5, R84 to R87) -/

/-- The first of the channels with the largest last delta, in the order given (5, R85, R86: ties go to the
lowest member index). -/
def strongest (keys : Vector KeyRecord 24) : List Channel → Option Channel
  | [] => none
  | c :: rest =>
    match strongest keys rest with
    | none => some c
    | some d => if keys[c].lastDelta < keys[d].lastDelta then some d else some c

/-- The channels enter SUPPRESSED, without records (5, R84, R85). -/
def suppress (cs : List Channel) (keys : Vector KeyRecord 24) : Vector KeyRecord 24 :=
  tab fun c => if cs.contains c then keys[c].enter .suppressed else keys[c]

/-- The members in a state. -/
def membersIn (state : KeyState) (members : List Channel) (keys : Vector KeyRecord 24) : List Channel :=
  members.filter fun c => keys[c].state == state

/-- The arbitration of an EXCLUSIVE group: the incumbent keeps the group (5, R84); else the strongest candidate
(R85); else the strongest SUPPRESSED member is raised (R86). `prior` holds the keys before the channel step. -/
def arbitrate (members : List Channel) (prior keys : Vector KeyRecord 24) : Vector KeyRecord 24 :=
  let pressed := membersIn .pressed members keys
  let incumbents := pressed.filter fun c => prior[c].state == .pressed
  let candidates := pressed.filter fun c => prior[c].state != .pressed
  if incumbents ≠ [] then suppress candidates keys
  else
    match strongest keys candidates with
    | some winner => suppress (candidates.filter (· != winner)) keys
    | none =>
      match strongest keys (membersIn .suppressed members keys) with
      | some raised => put keys raised (keys[raised].enter .pressed)
      | none => keys

/-! ## Positions (5, R88 to R91) -/

/-- The weights of the members, in member order (5, R88): the larger of 0 and the last delta. -/
def weights (keys : Vector KeyRecord 24) (members : List Channel) : List Nat :=
  members.map fun c => keys[c].lastDelta.toNat

/-- The sum of member index times weight, counting the index from `j`. -/
def weightedSum (j : Nat) : List Nat → Nat
  | [] => 0
  | w :: rest => j * w + weightedSum (j + 1) rest

/-- The position of a SLIDER (5, R89), by floor division. -/
def sliderPosition (ws : List Nat) : Nat := 255 * weightedSum 0 ws / ((ws.length - 1) * ws.sum)

/-- The place of the first largest weight, counting from `j`, with that weight (5, R90, step 1). -/
def peak (j : Nat) : List Nat → Nat × Nat
  | [] => (j, 0)
  | w :: rest => if rest.all (· ≤ w) then (j, w) else peak (j + 1) rest

/-- The position of a WHEEL (5, R90). -/
def wheelPosition (ws : List Nat) : Nat :=
  let n := ws.length
  let i := (peak 0 ws).1
  let a := ws.getD ((i + n - 1) % n) 0
  let b := ws.getD i 0
  let c := ws.getD ((i + 1) % n) 0
  let t := a + b + c
  let q : Int := 256 * ((i * t : Nat) + (c : Int) - (a : Int))
  let q' : Int := if q < 0 then q + 256 * n * t else q
  (q' / ((n * t : Nat) : Int)).toNat % 256

/-- The position the group computes: with a sum of 0 it keeps the one it had (5, R91). -/
def newPosition (kind : GroupKind) (ws : List Nat) (old : Option Byte) : Option Byte :=
  if ws.sum = 0 then old
  else some (BitVec.ofNat 8 (if kind = .wheel then wheelPosition ws else sliderPosition ws))

/-- A position as the window and the records show it: NONE reads 0 (5, R82). -/
def shownPosition (p : Option Byte) : Byte := p.getD 0

/-- The distance between two positions: circular for a WHEEL (5, R93). -/
def positionDistance (kind : GroupKind) (p q : Byte) : Nat :=
  let d := max p.toNat q.toNat - min p.toNat q.toNat
  if kind = .wheel then min d (256 - d) else d

/-! ## The stage (5, R83) -/

/-- The runtime record and the record of a SLIDER or WHEEL group (5, R92 to R94). -/
def positionStage (g : GroupId) (d : GroupDef) (keys : Vector KeyRecord 24) (run : GroupRun) :
    GroupRun × List EventRecord :=
  let p := newPosition d.groupKind (weights keys d.memberList) run.position
  if membersIn .pressed d.memberList keys ≠ [] then
    if run.touched = false then (⟨true, p, p⟩, [groupTouchRecord g (shownPosition p)])
    else if d.moveThreshold.toNat ≤ positionDistance d.groupKind (shownPosition p) (shownPosition run.reported) then
      (⟨true, p, p⟩, [groupMoveRecord g (shownPosition p)])
    else (⟨true, p, run.reported⟩, [])
  else if run.touched then (GroupRun.cleared, [groupReleaseRecord g (shownPosition run.position) .normal])
  else (run, [])

/-- The keys after the group stage of group `g`. -/
def groupKeys (cfg : Configuration) (prior keys : Vector KeyRecord 24) (g : GroupId) : Vector KeyRecord 24 :=
  match cfg.groups[g].groupKind with
  | .exclusive => arbitrate cfg.groups[g].memberList prior keys
  | .none => keys
  | .slider => keys
  | .wheel => keys

/-- The keys after the whole group stage, the groups in index order. -/
def stageKeys (cfg : Configuration) (prior keys : Vector KeyRecord 24) : Vector KeyRecord 24 :=
  allGroups.foldl (fun ks g => groupKeys cfg prior ks g) keys

/-- The runtime record and the records of group `g`, from the keys after the stage. No two groups share a member
(R83), so the keys of one group are the same whether its visit or the whole stage has just ended. -/
def groupStage (cfg : Configuration) (keys : Vector KeyRecord 24) (g : GroupId) (run : GroupRun) :
    GroupRun × List EventRecord :=
  let d := cfg.groups[g]
  match d.groupKind with
  | .none => (run, [])
  | .exclusive => ({ run with touched := (membersIn .pressed d.memberList keys) != [] }, [])
  | .slider => positionStage g d keys run
  | .wheel => positionStage g d keys run

/-! ## The round evaluation (3, R41) -/

/-- The key of channel `c` after stage 1, with its records; a key without a result is not stepped. -/
def steppedKey (cfg : Configuration) (results : List MeasResult) (c : Channel) (k : KeyRecord) : KeyOutcome :=
  match results.find? fun r => r.channel == c with
  | none => (k, [])
  | some r => keyStage cfg r k

/-- The keys after stage 1. -/
def steppedKeys (cfg : Configuration) (results : List MeasResult) (prior : Vector KeyRecord 24) : Vector KeyRecord 24 :=
  tab fun c => (steppedKey cfg results c prior[c]).1

/-- KEY_DOWN of a newly pressed key that is no SLIDER or WHEEL member (3, R53, R54). -/
def keyDownRecords (cfg : Configuration) (c : Channel) (before after : KeyRecord) : List EventRecord :=
  if after.state = .pressed ∧ before.state ≠ .pressed ∧ cfg.sliderMember c = false then
    [keyDownRecord c after.lastDelta]
  else []

/-- The evaluation of a result set: channel step, group stage, emission (3, R41, R55). -/
def State.evaluate (s : State) (results : List MeasResult) : State :=
  let cfg := s.live
  let keys := stageKeys cfg s.keys (steppedKeys cfg results s.keys)
  let keyRecords := cfg.scanList.flatMap fun c =>
    (steppedKey cfg results c s.keys[c]).2 ++ keyDownRecords cfg c s.keys[c] keys[c]
  let groupRecords := allGroups.flatMap fun g => (groupStage cfg keys g s.groups[g]).2
  ((s.withKeys keys).withGroups (tab fun g => (groupStage cfg keys g s.groups[g]).1)).offerAll
    (keyRecords ++ groupRecords)

end Sys2Proof.Machine
end

