-- ==== Sys2Proof/Machine/Forced.lean ====
section
/-! DEFINITION. Forced transitions of keys, and the groups that follow them (3, R57 to R60; 5, R96). -/

namespace Sys2Proof.Machine

/-- The detection unit moves the keys of the channels named, each by `move`, and offers their records in the
order of the channels (3, R57). -/
def State.forceKeys (s : State) (channels : List Channel) (move : Channel → KeyRecord → KeyOutcome) : State :=
  (s.withKeys (tab fun c => if channels.contains c then (move c s.keys[c]).1 else s.keys[c])).offerAll
    (channels.flatMap fun c => (move c s.keys[c]).2)

/-- A group after a forced transition (5, R96): released when it was touched and no member is PRESSED now. -/
def releasedGroup (d : GroupDef) (keys : Vector KeyRecord 24) (g : GroupId) (cause : ReleaseCause) (run : GroupRun) :
    GroupRun × List EventRecord :=
  if run.touched = true ∧ membersIn .pressed d.memberList keys = [] then
    (GroupRun.cleared, if d.hasPosition then [groupReleaseRecord g (shownPosition run.position) cause] else [])
  else (run, [])

/-- The groups follow a forced transition, in index order (5, R96). -/
def State.followGroups (s : State) (cause : ReleaseCause) : State :=
  let out : GroupId → GroupRun × List EventRecord := fun g =>
    releasedGroup s.live.groups[g] s.keys g cause s.groups[g]
  (s.withGroups (tab fun g => (out g).1)).offerAll (allGroups.flatMap fun g => (out g).2)

/-- A key that STOP or DOZE releases: PROX, DETECT, PRESSED and SUPPRESSED enter IDLE (3, R58, R59). -/
def releaseKey (cfg : Configuration) (cause : ReleaseCause) (c : Channel) (k : KeyRecord) : KeyOutcome :=
  match k.state with
  | .prox => moveKey c .idle k
  | .detect => moveKey c .idle k
  | .suppressed => moveKey c .idle k
  | .pressed => upBefore (cfg.sliderMember c) c cause k (moveKey c .idle k)
  | .off => (k, [])
  | .cal => (k, [])
  | .idle => (k, [])
  | .fault => (k, [])

/-- A key under STOP (3, R58): as above, and a key in CAL starts its calibration over. -/
def stopKey (cfg : Configuration) (c : Channel) (k : KeyRecord) : KeyOutcome :=
  if k.state = .cal then ({ k with acc := Accumulator.empty }, []) else releaseKey cfg .stop c k

/-- A target of RECAL enters CAL, a key already there included (4, R73). -/
def recalKey (cfg : Configuration) (c : Channel) (k : KeyRecord) : KeyOutcome :=
  upBefore (cfg.sliderMember c) c .recal k (moveKey c .cal k)

/-- A key at trim completion (9, R156, step 3): CAL, unless it is in FAULT. -/
def trimEndKey (c : Channel) (k : KeyRecord) : KeyOutcome :=
  if k.state = .fault then (k, []) else moveKey c .cal k

/-- The listed channels whose wake flag is clear, in scan-list order (10, R162, R163). -/
def Configuration.nonWakeChannels (cfg : Configuration) : List Channel :=
  cfg.scanList.filter fun c => !cfg.channels[c].wake

/-- STOP releases every listed key, then the groups (3, R58; 5, R97). -/
def State.releaseForStop (s : State) : State :=
  (s.forceKeys s.live.scanList (stopKey s.live)).followGroups .stop

/-- The DOZE command releases the listed non-wake keys, then the groups (3, R59; 5, R97). -/
def State.releaseForDoze (s : State) : State :=
  (s.forceKeys s.live.nonWakeChannels (releaseKey s.live .doze)).followGroups .doze

/-- RECAL sends its targets to CAL, then the groups follow with the cause NORMAL (4, R73; 5, R96). -/
def State.sendToCal (s : State) (targets : List Channel) : State :=
  (s.forceKeys targets (recalKey s.live)).followGroups .normal

end Sys2Proof.Machine
end

