-- ==== Sys2Proof/Machine/Validation.lean ====
section
/-! DEFINITION. The fourteen checks of a snapshot (8, R137) and their detail codes (R140). -/

namespace Sys2Proof.Machine

/-- The value lies from `lo` to `hi`. -/
def within (lo hi v : Nat) : Bool := decide (lo ≤ v) && decide (v ≤ hi)

/-- The first index below `n` at which the check fails. -/
def firstFailing (n : Nat) (passes : Nat → Bool) : Option Nat := (List.range n).find? fun i => !passes i

/-- The first channel at which the check fails. -/
def firstChannel (passes : Channel → Bool) : Option Nat := (allChannels.find? fun c => !passes c).map Fin.val

/-- The first group at which the check fails. -/
def firstGroup (passes : GroupId → Bool) : Option Nat := (allGroups.find? fun g => !passes g).map Fin.val

/-- The stored entry at a list position. -/
def Configuration.entryAt (cfg : Configuration) (i : Nat) : Nat := (cfg.scan.entries.toList.getD i 0).toNat

/-- The entries within the count. -/
def Configuration.entryCount (cfg : Configuration) : Nat := cfg.scan.count.toNat

/-- V1: the entry count is 0 to 24. -/
def checkV1 (cfg : Configuration) : Option Nat := if cfg.entryCount ≤ 24 then none else some 0

/-- V2: each entry within the count is a channel number. -/
def checkV2 (cfg : Configuration) : Option Nat := firstFailing cfg.entryCount fun i => decide (cfg.entryAt i < 24)

/-- V3: no entry repeats an earlier one. -/
def checkV3 (cfg : Configuration) : Option Nat :=
  firstFailing cfg.entryCount fun i => (List.range i).all fun j => cfg.entryAt j != cfg.entryAt i

/-- V4: each listed channel's electrode set is not empty and names no position from 20 to 23. -/
def checkV4 (cfg : Configuration) : Option Nat :=
  firstChannel fun c =>
    !cfg.listed c || within 1 (2 ^ 20 - 1) cfg.channels[c].electrodes.toNat

/-- V5: each burst code names 4, 8, 16 or 32. -/
def checkV5 (cfg : Configuration) : Option Nat := firstChannel fun c => within 0 3 cfg.channels[c].burst.toNat

/-- V6: each ceiling is 64 to 4095 and each floor is below its ceiling. -/
def checkV6 (cfg : Configuration) : Option Nat :=
  firstChannel fun c =>
    within 64 4095 cfg.channels[c].ceiling.toNat &&
      decide (cfg.channels[c].floor.toNat < cfg.channels[c].ceiling.toNat)

/-- V7: each touch threshold is at least 1. -/
def checkV7 (cfg : Configuration) : Option Nat := firstChannel fun c => within 1 255 cfg.channels[c].touch.toNat

/-- V8: each release threshold is 1 to its touch threshold. -/
def checkV8 (cfg : Configuration) : Option Nat :=
  firstChannel fun c => within 1 cfg.channels[c].touch.toNat cfg.channels[c].release.toNat

/-- V9: each prox threshold is 0 or below its touch threshold. -/
def checkV9 (cfg : Configuration) : Option Nat :=
  firstChannel fun c => cfg.channels[c].prox == 0 || decide (cfg.channels[c].prox.toNat < cfg.channels[c].touch.toNat)

/-- V10: each down debounce and up debounce is 1 to 8. -/
def checkV10 (cfg : Configuration) : Option Nat :=
  firstChannel fun c =>
    within 1 8 cfg.channels[c].downDebounce.toNat && within 1 8 cfg.channels[c].upDebounce.toNat

/-- The global items of V11 in index order (8, R137). -/
def globalItems (g : Globals) : List Bool :=
  [ g.calSamples == 4 || g.calSamples == 8 || g.calSamples == 16,
    within 1 1023 g.calSpread.toNat,
    within 1 255 g.driftInterval.toNat,
    within 1 15 g.driftStep.toNat,
    within 1 255 g.negLimit.toNat,
    within 1 255 g.negRounds.toNat,
    within 1 1023 g.noiseLimit.toNat,
    g.hopSet != 0,
    within 0 3 g.hopRetries.toNat,
    within 1 15 g.faultRounds.toNat,
    within 5 255 g.roundPeriod.toNat,
    within 2 200 g.dozePeriod.toNat,
    within 64 4094 g.targetLo.toNat && within 64 4094 g.targetHi.toNat &&
      decide (g.targetLo.toNat < g.targetHi.toNat) ]

/-- V11: each global item is in range. -/
def checkV11 (cfg : Configuration) : Option Nat :=
  firstFailing 13 fun i => (globalItems cfg.globals).getD i true

/-- Each member entry within the count is 0 to 23, and none appears twice. -/
def membersDistinct (d : GroupDef) : Bool :=
  (List.range d.count.toNat).all fun i =>
    decide ((d.members.toList.getD i 0).toNat < 24) &&
      (List.range i).all fun j => d.members.toList.getD j 0 != d.members.toList.getD i 0

/-- A group's definition is well formed (8, R137, V12). -/
def groupWellFormed (d : GroupDef) : Bool :=
  match groupKindOf d.kind with
  | none => false
  | some .none => true
  | some .exclusive => within 2 8 d.count.toNat && membersDistinct d
  | some .slider => within 2 8 d.count.toNat && membersDistinct d && within 1 64 d.moveThreshold.toNat
  | some .wheel => within 3 8 d.count.toNat && membersDistinct d && within 1 64 d.moveThreshold.toNat

/-- V12: each group's definition is well formed. -/
def checkV12 (cfg : Configuration) : Option Nat := firstGroup fun g => groupWellFormed cfg.groups[g]

/-- The members that V13 and V14 count: none for a NONE group (8, R137). -/
def Configuration.countedMembers (cfg : Configuration) (g : GroupId) : List Channel :=
  if cfg.groups[g].groupKind = .none then [] else cfg.groups[g].memberList

/-- V13: no channel is a member of two groups; the index is the lowest group that shares a member with a lower
one. -/
def checkV13 (cfg : Configuration) : Option Nat :=
  firstGroup fun g =>
    allGroups.all fun h => !decide (h < g) || (cfg.countedMembers g).all fun c => !(cfg.countedMembers h).contains c

/-- V14: every member of every group is in the scan list. -/
def checkV14 (cfg : Configuration) : Option Nat := firstGroup fun g => (cfg.countedMembers g).all cfg.listed

/-- The checks in number order, each with the first value of its detail range (8, R140). -/
def validationChecks : List (Nat × (Configuration → Option Nat)) :=
  [ (1, checkV1), (2, checkV2), (26, checkV3), (50, checkV4), (74, checkV5), (98, checkV6), (122, checkV7),
    (146, checkV8), (170, checkV9), (194, checkV10), (218, checkV11), (231, checkV12), (237, checkV13),
    (243, checkV14) ]

/-- The detail of the first failing check, or none for a valid snapshot (8, R137, R140). -/
def validationFailure (cfg : Configuration) : Option Nat :=
  validationChecks.findSome? fun v => (v.2 cfg).map (v.1 + ·)

/-- The snapshot passes every check (8, R137). -/
def Configuration.valid (cfg : Configuration) : Bool := (validationFailure cfg).isNone

end Sys2Proof.Machine
end

