-- ==== Sys2Proof/Machine/Install.lean ====
section
/-! DEFINITION. The install of a valid snapshot (8, R141 to R147). -/

namespace Sys2Proof.Machine

/-- A measurement field differs (8, R134). -/
def measurementChanged (old new : ChannelConfig) : Bool :=
  old.electrodes != new.electrodes || old.trim != new.trim || old.burst != new.burst ||
    old.ceiling != new.ceiling || old.floor != new.floor

/-- A detection field differs (8, R134). -/
def detectionChanged (old new : ChannelConfig) : Bool :=
  old.touch != new.touch || old.release != new.release || old.prox != new.prox ||
    old.downDebounce != new.downDebounce || old.upDebounce != new.upDebounce ||
    old.maxOn != new.maxOn || old.wake != new.wake

/-- Two definitions of a group differ (8, R143): by kind, count, stored entries (log 9) or threshold; two NONE
definitions do not. -/
def definitionChanged (old new : GroupDef) : Bool :=
  if old.groupKind = .none ∧ new.groupKind = .none then false
  else old.kind != new.kind || old.count != new.count || old.members != new.members ||
    old.moveThreshold != new.moveThreshold

/-- The channel's group changed, or the definition of its group did (8, R143, case 4). -/
def groupingChanged (old new : Configuration) (c : Channel) : Bool :=
  if old.groupOf c = new.groupOf c then
    match new.groupOf c with
    | none => false
    | some g => definitionChanged old.groups[g] new.groups[g]
  else true

/-- The cases of R143, first to last. -/
inductive InstallCase where
  | removed | added | remeasured | regrouped | redetected | untouched
  deriving DecidableEq, Repr

/-- The first case that fits a channel (8, R143). -/
def installCase (old new : Configuration) (c : Channel) : InstallCase :=
  if old.listed c then
    if new.listed c = false then .removed
    else if measurementChanged old.channels[c] new.channels[c] then .remeasured
    else if groupingChanged old new c then .regrouped
    else if detectionChanged old.channels[c] new.channels[c] then .redetected
    else .untouched
  else if new.listed c then .added
  else .untouched

/-- The counters that cases 4 and 5 clear (8, R143). -/
def clearDebounce (k : KeyRecord) : KeyRecord := { k with debounce := 0, release := 0 }

/-- The key states that case 4 sends to IDLE (8, R143). -/
def leavesWhenRegrouped : KeyState → Bool
  | .pressed => true
  | .suppressed => true
  | .detect => true
  | .off => false
  | .cal => false
  | .idle => false
  | .prox => false
  | .fault => false

/-- A key at an install, with its records (8, R143, R144). Whether KEY_UP is produced is decided by the old
definitions. -/
def installKey (old new : Configuration) (c : Channel) (k : KeyRecord) : KeyOutcome :=
  let leave (state : KeyState) : KeyOutcome := upBefore (old.sliderMember c) c .config k (moveKey c state k)
  match installCase old new c with
  | .removed => leave .off
  | .added => moveKey c .cal k
  | .remeasured => leave .cal
  | .regrouped =>
    if leavesWhenRegrouped k.state then (clearDebounce (leave .idle).1, (leave .idle).2) else (clearDebounce k, [])
  | .redetected => (clearDebounce k, [])
  | .untouched => (k, [])

/-- A group at an install (8, R145): a changed one is released and cleared, an unchanged one follows R96. -/
def installGroup (old new : Configuration) (keys : Vector KeyRecord 24) (g : GroupId) (run : GroupRun) :
    GroupRun × List EventRecord :=
  if definitionChanged old.groups[g] new.groups[g] then
    (GroupRun.cleared,
      if run.touched = true ∧ old.groups[g].hasPosition = true then
        [groupReleaseRecord g (shownPosition run.position) .config]
      else [])
  else releasedGroup new.groups[g] keys g .config run

/-- The hop index an install leaves (1, R13). -/
def hopIntoSet (set : BitVec 5) (h : Hop) : Hop := if inHopSet set h then h else lowestHop set

/-- The channels in the order their key records are offered: the new list, then the removed channels in number
order (8, R147). -/
def installOrder (old new : Configuration) : List Channel :=
  new.scanList ++ allChannels.filter fun c => old.listed c && !new.listed c

/-- Steps 1 to 4 of an install, with the records of R147 up to the groups'. -/
def State.installCopy (s : State) (new : Configuration) : State :=
  let old := s.live
  let keys : Vector KeyRecord 24 := tab fun c => (installKey old new c s.keys[c]).1
  let keyRecords := (installOrder old new).flatMap fun c => (installKey old new c s.keys[c]).2
  let groupRecords := allGroups.flatMap fun g => (installGroup old new keys g s.groups[g]).2
  let s₁ := s.withStore { s.store with live := new, snapshot := none }
  let s₂ := s₁.withEngine { s.engine with hop := tab fun c => hopIntoSet new.globals.hopSet s.engine.hop[c] }
  ((s₂.withKeys keys).withGroups (tab fun g => (installGroup old new keys g s.groups[g]).1)).offerAll
    (keyRecords ++ groupRecords)

/-- Step 5 of an install: DOZE becomes ACTIVE, and the inactivity count returns to 0 (8, R141, R146). -/
def State.wakeByInstall (s : State) : State :=
  if s.scan.mode = .doze then (s.changeMode .active .config 0xFF).clearInactivity else s

/-- An install, whole (8, R141): CMD_DONE(OK) comes last, and the unit is IDLE. -/
def State.install (s : State) (new : Configuration) : State :=
  (((s.installCopy new).wakeByInstall).leaveBusy).endCommand CommandName.commit.code .ok 0

end Sys2Proof.Machine
end

