-- ==== Sys2Proof/Machine/Rounds.lean ====
section
/-! DEFINITION. Rounds: their start, completion and abandonment, the inactivity count and the doze checks
(2, 10), and the progress of a waiting RECAL (4, R75). -/

namespace Sys2Proof.Machine

/-! ## Completion (2, R26) -/

/-- Stage 1, and the end of the round in flight (2, R26, R27). -/
def State.countRound (s : State) : State :=
  s.withScan { s.scan with counter := s.scan.counter + 1, round := none }

/-- A waiting RECAL after an evaluation (4, R75): keys that left CAL leave the waiting set, those that went to
FAULT are counted, and an empty set ends the command. -/
def State.advanceRecal (s : State) : State :=
  match s.command.inProgress with
  | some ⟨.recal waiting faulted, arg0, arg1⟩ =>
    let left := waiting.filter fun c => s.keys[c].state != .cal
    let still := waiting.filter fun c => s.keys[c].state == .cal
    let faulted' := faulted + (left.filter fun c => s.keys[c].state == .fault).length
    if still = [] then s.leaveBusy.endCommand CommandName.recal.code .ok (BitVec.ofNat 8 faulted')
    else s.withCommand { s.command with inProgress := some ⟨.recal still faulted', arg0, arg1⟩ }
  | some ⟨.commit, _, _⟩ => s
  | some ⟨.trim, _, _⟩ => s
  | none => s

/-- OFF, IDLE or FAULT (10, R160, R165). -/
def KeyState.quiet : KeyState → Bool
  | .off => true
  | .idle => true
  | .fault => true
  | .cal => false
  | .prox => false
  | .detect => false
  | .pressed => false
  | .suppressed => false

/-- Every one of the 24 keys is quiet (10, R160). -/
def allQuiet (keys : Vector KeyRecord 24) : Bool := allChannels.all fun c => keys[c].state.quiet

/-- The round timer set one doze period ahead, with nothing due (2, R31). -/
def State.setDozeTimer (s : State) : State :=
  s.withScan { s.scan with timer := some (s.live.period .doze), due := false }

/-- The inactivity count after an ACTIVE round (10, R160). -/
def State.countInactivity (s : State) : State :=
  s.withScan { s.scan with inactivity := if allQuiet s.keys then min 2040 (s.scan.inactivity + 1) else 0 }

/-- Stage 3 of an ACTIVE round (10, R160, R161). -/
def State.inactivityCheck (s : State) : State :=
  let s' := s.countInactivity
  let after := s'.live.globals.dozeAfter.toNat
  if after ≠ 0 ∧ 8 * after ≤ s'.scan.inactivity then (s'.changeMode .doze .inactivity 0xFF).setDozeTimer else s'

/-- The first wake key out of OFF, IDLE and FAULT, in scan-list order (10, R165). -/
def State.wakeKey (s : State) : Option Channel :=
  (s.live.measuredChannels .doze).find? fun c => !s.keys[c].state.quiet

/-- Stage 3 of a DOZE round (10, R165). -/
def State.wakeKeyCheck (s : State) : State :=
  if s.scan.mode = .doze then
    match s.wakeKey with
    | some c => (s.changeMode .active .wakeKey (idByte c)).clearInactivity
    | none => s
  else s

/-- Stages 1 to 3 of a completion, with the timer of an entry into DOZE (2, R26). -/
def State.finishRound (s : State) (kind : RoundKind) (results : List MeasResult) : State :=
  let s' := (s.countRound.evaluate results).advanceRecal
  match kind with
  | .active => s'.inactivityCheck
  | .doze => s'.wakeKeyCheck

/-! ## Start (2, R22) -/

/-- Step 1 of a round start: a pending snapshot is installed. -/
def State.installPending (s : State) : State :=
  match s.store.snapshot with
  | some cfg => s.install cfg
  | none => s

/-- The kind a round takes from the mode (2, R22, step 2). -/
def roundKindOf (mode : Mode) : RoundKind := if mode = .doze then .doze else .active

/-- Steps 2 to 5 of a round start; an empty round completes at once (2, R22, R26). -/
def State.launchRound (s : State) : State :=
  let kind := roundKindOf s.scan.mode
  let measured := s.live.measuredChannels kind
  let s' := s.withScan
    { s.scan with round := some ⟨kind, measured, []⟩, timer := some (s.live.period kind), due := false }
  match measured with
  | [] => s'.finishRound kind []
  | c :: _ => s'.requestScan c

/-- The start of a round (2, R22). -/
def State.startRound (s : State) : State := s.installPending.launchRound

/-- The next round starts at this completion (2, R26, stage 4): after a return from DOZE, or when one is due. -/
def State.startsAtCompletion (s : State) (kind : RoundKind) : Bool :=
  (kind == .doze && s.scan.mode == .active) || s.scan.due

/-- The completion of a round (2, R26). -/
def State.completeRound (s : State) (kind : RoundKind) (results : List MeasResult) : State :=
  let s' := s.finishRound kind results
  if s'.startsAtCompletion kind then s'.startRound else s'

/-! ## Progress (2, R25) -/

/-- A result reaches the scan controller: it joins the result set; the next measured channel is requested, or the
round completes. -/
def State.receiveScan (s : State) (r : MeasResult) : State :=
  match s.scan.round with
  | none => s
  | some round =>
    let results := round.results ++ [r]
    match round.measured.drop results.length with
    | c :: _ => (s.withScan { s.scan with round := some { round with results := results } }).requestScan c
    | [] => s.completeRound round.kind results

/-- The round timer expires (2, R23): the next round starts, or becomes due with OVERRUN set. -/
def State.expireRoundTimer (s : State) : State :=
  match s.scan.timer with
  | none => s
  | some _ =>
    match s.scan.round with
    | none => s.startRound
    | some _ => s.withScan { s.scan with timer := none, due := true, overrun := true }

end Sys2Proof.Machine
end

