-- ==== Sys2Proof/Machine/TrimUnit.lean ====
section
/-! DEFINITION. The automatic trim search (9, R151 to R159). -/

namespace Sys2Proof.Machine

/-- The place a search pass tests (9, R153): 32, 16, 8, 4, 2, 1 in passes 1 to 6; none in pass 7. -/
def placeUnderTest (pass : Nat) : BitVec 6 := if 1 ≤ pass ∧ pass ≤ 6 then 1#6 <<< (6 - pass) else 0

/-- The trial trim a request names (9, R153): the trial value with the pass's place added. -/
def TrimRun.named (t : TrimRun) (c : Channel) : BitVec 6 := t.trial[c] + placeUnderTest t.pass

/-- The place under test is kept (9, R154). -/
def keepsPlace (hi : Nat) (r : MeasResult) : Bool :=
  match r.verdict with
  | .valid => decide (r.mean ≤ hi)
  | .openCircuit => false
  | .shorted => true
  | .noisy => false

/-- The found status of the verify pass (9, R155). -/
def foundStatus (lo hi : Nat) (trial : BitVec 6) (r : MeasResult) : TrimStatus :=
  if r.verdict ≠ .valid then .failed
  else if r.mean < lo then (if trial = 63 then .lowLimit else .ok)
  else if hi < r.mean then (if trial = 0 then .highLimit else .ok)
  else .ok

/-- The decision on a result (9, R154, R155). -/
def TrimRun.decideOn (t : TrimRun) (r : MeasResult) : TrimRun :=
  if t.pass = 7 then { t with found := put t.found r.channel (foundStatus t.lo t.hi t.trial[r.channel] r) }
  else if keepsPlace t.hi r then { t with trial := put t.trial r.channel (t.named r.channel) }
  else t

/-- The next channel of the pass, or the first of the next pass; none after pass 7 (9, R153). -/
def TrimRun.advance (t : TrimRun) : Option TrimRun :=
  if t.place + 1 < t.channels.length then some { t with place := t.place + 1 }
  else if t.pass < 7 then some { t with pass := t.pass + 1, place := 0 }
  else none

/-- The trim unit requests the channel at its place (9, R153). -/
def State.requestTrim (s : State) (t : TrimRun) : State :=
  match t.channels.drop t.place with
  | c :: _ => (s.withTrimRun (some t)).request .trim c (t.named c)
  | [] => s.withTrimRun (some t)

/-- The trim unit when TRIM is accepted (9, R152). -/
def trimRunFor (cfg : Configuration) : TrimRun where
  channels := cfg.scanList
  lo := cfg.globals.targetLo.toNat
  hi := cfg.globals.targetHi.toNat
  pass := 1
  place := 0
  trial := tab fun _ => 0
  found := tab fun _ => .none

/-- The found status writes the trial value (9, R156, step 1). -/
def writesTrim : TrimStatus → Bool
  | .ok => true
  | .lowLimit => true
  | .highLimit => true
  | .failed => false
  | .none => false

/-- The trim field written into a copy of the configuration (9, R156, step 1). -/
def TrimRun.writeInto (t : TrimRun) (cfg : Configuration) : Configuration :=
  { cfg with
    channels := tab fun c =>
      if t.channels.contains c && writesTrim t.found[c] then { cfg.channels[c] with trim := t.trial[c] }
      else cfg.channels[c] }

/-- The number of searched channels whose status is LOW_LIMIT, HIGH_LIMIT or FAILED (7, R128). -/
def TrimRun.missed (t : TrimRun) : Nat := (t.channels.filter fun c => t.found[c] != .ok).length

/-- The completion of a trim (9, R156). -/
def State.completeTrim (s : State) (t : TrimRun) : State :=
  let s₁ := s.withStore
    { s.store with staging := t.writeInto s.store.staging, live := t.writeInto s.store.live }
  let s₂ := s₁.withKeys <| tab fun c =>
    if t.channels.contains c then { s.keys[c] with trimStatus := t.found[c] } else s.keys[c]
  let s₃ := (s₂.forceKeys s₂.live.scanList trimEndKey).withTrimRun none
  ((s₃.changeMode .stopped .trimEnd 0xFF).leaveBusy).endCommand CommandName.trim.code .ok
    (BitVec.ofNat 8 t.missed)

/-- A result reaches the trim unit (9, R153): it decides, and requests the next measurement or completes. -/
def State.receiveTrim (s : State) (r : MeasResult) : State :=
  match s.trimRun with
  | none => s
  | some t =>
    match (t.decideOn r).advance with
    | some t' => s.requestTrim t'
    | none => s.completeTrim (t.decideOn r)

end Sys2Proof.Machine
end

