-- ==== Sys2Proof/Machine/Measure.lean ====
section
/-! DEFINITION. The measurement engine: conversions, bursts, outcomes, retries (1), and the commands CONVERSION
and ROUND_TIMER_EXPIRY. -/

namespace Sys2Proof.Machine

/-- The mean of a burst, by floor division (1, R3). -/
def burstMean (counts : List Nat) : Nat := counts.sum / counts.length

/-- The largest count of a burst (1, R3). -/
def largestCount (counts : List Nat) : Nat := counts.foldr max 0

/-- The smallest count of a burst (1, R3). -/
def smallestCount : List Nat → Nat
  | [] => 0
  | n :: rest => rest.foldr min n

/-- The spread of a burst: the largest count minus the smallest (1, R3). -/
def burstSpread (counts : List Nat) : Nat := largestCount counts - smallestCount counts

/-- The outcome of a burst: the first test that holds decides (1, R4). -/
def burstVerdict (m : Measurement) (counts : List Nat) : Verdict :=
  if counts.any (· == m.ceiling) then .openCircuit
  else if burstMean counts < m.floor then .shorted
  else if m.noiseLimit < burstSpread counts then .noisy
  else .valid

/-- The engine returns to IDLE and hands the result to the requester (1, R5, R6). -/
def State.deliver (s : State) (requester : Requester) (r : MeasResult) : State :=
  match requester with
  | .scan => s.abandonMeasurement.receiveScan r
  | .trim => s.abandonMeasurement.receiveTrim r

/-- A retry: the hop index moves to the next frequency and a new burst begins (1, R12). -/
def State.retry (s : State) (m : Measurement) : State :=
  s.withEngine
    { hop := put s.engine.hop m.channel (nextHop m.hopSet s.engine.hop[m.channel])
      current := some { m with retries := m.retries - 1, counts := [] } }

/-- The end of a burst (1, R4, R12). -/
def State.endBurst (s : State) (m : Measurement) (counts : List Nat) : State :=
  if burstVerdict m counts = .noisy ∧ m.retries ≠ 0 then s.retry m
  else s.deliver m.requester ⟨m.channel, burstVerdict m counts, burstMean counts⟩

/-- A conversion ends (1, R1, R3): its count is the number of cycles, or the ceiling where that comes first. -/
def State.endConversion (s : State) (cycles : Nat) : State :=
  match s.engine.current with
  | none => s
  | some m =>
    let counts := m.counts ++ [min cycles m.ceiling]
    if counts.length < m.burstLength then s.withEngine { s.engine with current := some { m with counts := counts } }
    else s.endBurst m counts

/-- CONVERSION (1, R1). With the engine IDLE no conversion is in progress, and nothing happens. -/
def execConversion (cycles : Nat) (s : State) : Host.Outcome State Fault Refusal :=
  .next (s.inside fun s => s.endConversion cycles)

/-- ROUND_TIMER_EXPIRY (2, R23). A stopped timer does not expire, and nothing happens. -/
def execRoundTimerExpiry (s : State) : Host.Outcome State Fault Refusal :=
  .next (s.inside State.expireRoundTimer)

end Sys2Proof.Machine
end

