-- ==== Sys2Proof/Machine/Commands.lean ====
section
/-! DEFINITION. The command unit: what a byte written to CMD does (7; 2, R28, R29; 4, R72 to R77; 6, R114;
8, R139, R148; 10, R162, R163). -/

namespace Sys2Proof.Machine

/-- A taken command that ends at once with a refusal and detail 0 (7, R124). -/
def State.refuse (s : State) (name : CommandName) (result : ResultCode) : State := s.endCommand name.code result 0

/-- START, taken in IDLE (2, R28). -/
def State.takeStart (s : State) : State :=
  if s.scan.mode ≠ .stopped then s.refuse .start .wrongMode
  else if s.live.scanList = [] then s.refuse .start .emptyList
  else (((s.changeMode .active .command 0xFF).clearInactivity).endCommand CommandName.start.code .ok 0).startRound

/-- The round timer is stopped and nothing is due (2, R29, R32). -/
def State.stopTimer (s : State) : State := s.withScan { s.scan with timer := none, due := false }

/-- STOP, taken in IDLE (2, R29). -/
def State.takeStop (s : State) : State :=
  if s.scan.mode = .active ∨ s.scan.mode = .doze then
    ((s.abandonRound.stopTimer.releaseForStop).changeMode .stopped .command 0xFF).endCommand CommandName.stop.code .ok 0
  else s.refuse .stop .wrongMode

/-- COMMIT, taken in IDLE (7, R126; 8, R139, R142). -/
def State.takeCommit (s : State) : State :=
  if s.scan.mode = .trim then s.refuse .commit .wrongMode
  else
    match validationFailure s.store.staging with
    | some detail => s.endCommand CommandName.commit.code .invalidConfig (BitVec.ofNat 8 detail)
    | none =>
      if s.scan.mode = .stopped then s.install s.store.staging
      else (s.withStore { s.store with snapshot := some s.store.staging }).enterBusy .commit .commit

/-- The targets of a RECAL argument (4, R72); none for a bad argument. -/
def recalTargets (cfg : Configuration) (arg : Byte) : Option (List Channel) :=
  if arg = 0xFF then some cfg.scanList
  else match channelOf arg with
    | some c => some (if cfg.listed c then [c] else [])
    | none => none

/-- The first ACTIVE round after a command-driven return from DOZE starts at once, unless a DOZE round is in
flight (2, R32). -/
def State.leaveDoze (s : State) : State :=
  match s.scan.round with
  | none => s.stopTimer.startRound
  | some _ => s.stopTimer

/-- RECAL with targets (4, R73 to R76). -/
def State.recalKeys (s : State) (targets : List Channel) : State :=
  match s.scan.mode with
  | .stopped => (s.sendToCal targets).endCommand CommandName.recal.code .ok 0
  | .trim => (s.sendToCal targets).endCommand CommandName.recal.code .ok 0
  | .active => (s.sendToCal targets).enterBusy .recal (.recal targets 0)
  | .doze =>
    ((((s.sendToCal targets).changeMode .active .recal 0xFF).clearInactivity).enterBusy .recal (.recal targets 0)).leaveDoze

/-- RECAL, taken in IDLE (4, R72). -/
def State.takeRecal (s : State) : State :=
  match recalTargets s.live s.command.arg0 with
  | none => s.refuse .recal .badArg
  | some [] => s.endCommand CommandName.recal.code .ok 0
  | some targets => s.recalKeys targets

/-- TRIM, taken in IDLE (7, R128; 9, R152). -/
def State.takeTrim (s : State) : State :=
  if s.scan.mode ≠ .stopped then s.refuse .trim .wrongMode
  else if s.live.scanList = [] then s.refuse .trim .emptyList
  else ((s.enterBusy .trim .trim).changeMode .trim .command 0xFF).requestTrim (trimRunFor s.live)

/-- A non-wake listed key is in CAL (10, R162). -/
def State.dozeBlocked (s : State) : Bool := s.live.nonWakeChannels.any fun c => s.keys[c].state == .cal

/-- DOZE, taken in IDLE (10, R162, R163). -/
def State.takeDoze (s : State) : State :=
  if s.scan.mode ≠ .active ∨ s.dozeBlocked = true then s.refuse .doze .wrongMode
  else
    (((s.abandonRound.setDozeTimer).releaseForDoze).changeMode .doze .command 0xFF).endCommand CommandName.doze.code .ok 0

/-- WAKE, taken in IDLE (7, R127). -/
def State.takeWake (s : State) : State :=
  if s.scan.mode ≠ .doze then s.refuse .wake .wrongMode
  else (((s.changeMode .active .command 0xFF).clearInactivity).endCommand CommandName.wake.code .ok 0).leaveDoze

/-- FLUSH, taken in IDLE or BUSY (6, R114). -/
def State.takeFlush (s : State) : State :=
  (s.withQueue s.queue.flushed).endCommand CommandName.flush.code .ok (BitVec.ofNat 8 s.queue.records.length)

/-- The trim is cancelled (7, R129; 9, R158). -/
def State.cancelTrim (s : State) : State :=
  ((s.abandonMeasurement).withTrimRun none).changeMode .stopped .command 0xFF

/-- ABORT, taken in IDLE or BUSY (7, R129). -/
def State.takeAbort (s : State) : State :=
  match s.command.inProgress with
  | none => s.refuse .abort .nothingPending
  | some ⟨.commit, _, _⟩ =>
    ((s.withStore { s.store with snapshot := none }).leaveBusy).endCommand CommandName.commit.code .aborted 0
  | some ⟨.recal waiting _, _, _⟩ =>
    s.leaveBusy.endCommand CommandName.recal.code .aborted (BitVec.ofNat 8 waiting.length)
  | some ⟨.trim, _, _⟩ => s.cancelTrim.leaveBusy.endCommand CommandName.trim.code .aborted 0

/-- RESET, taken in IDLE or BUSY (7, R130, R131): accepted and pending, or BAD_ARG. -/
def State.takeReset (s : State) : State :=
  match resetKindOf s.command.arg0 with
  | some kind => s.withCommand { s.command with pendingReset := some kind }
  | none => s.endCommand CommandName.reset.code .badArg 0

/-- A refusal while BUSY (7, R123): CMD_REJECTED and nothing else. -/
def State.rejectCommand (s : State) : State := s.withCommand { s.command with rejected := true }

/-- A taken request (7, R123, R124). -/
def State.takeCommand (s : State) : CommandName → State
  | .start => s.takeStart
  | .stop => s.takeStop
  | .commit => s.takeCommit
  | .recal => s.takeRecal
  | .trim => s.takeTrim
  | .doze => s.takeDoze
  | .wake => s.takeWake
  | .flush => s.takeFlush
  | .abort => s.takeAbort
  | .reset => s.takeReset

/-- The commands taken while BUSY (7, R123). -/
def CommandName.takenWhenBusy : CommandName → Bool
  | .flush => true
  | .abort => true
  | .reset => true
  | .start => false
  | .stop => false
  | .commit => false
  | .recal => false
  | .trim => false
  | .doze => false
  | .wake => false

/-- A byte written to CMD (7, R120, R123, R124, R131). While a RESET is pending it is discarded. -/
def State.commandRequest (s : State) (code : Byte) : State :=
  if s.command.pendingReset.isSome then s
  else
    match commandOf code with
    | none => if s.busy then s.rejectCommand else s.endCommand code .unknownCmd 0
    | some name => if s.busy && !name.takenWhenBusy then s.rejectCommand else s.takeCommand name

end Sys2Proof.Machine
end

