-- ==== Sys2Proof/Machine/Indicators.lean ====
section
/-! DEFINITION. The indicator driver: writes of line items, fades, PWM frames (11), the ATTN pulse timer (6,
R117), and the commands FADE_TIMER_EXPIRY, PWM_FRAME and PULSE_TIMER_EXPIRY. -/

namespace Sys2Proof.Machine

/-- A line with an item written, or none where the value is out of the item's range or the item is read-only
(11, R170; 12, R184, page 6). -/
def IndicatorLine.writeItem (l : IndicatorLine) (item : IndicatorItem) (v : Byte) : Option IndicatorLine :=
  match item with
  | .source => (lineSourceOf v).map fun src => { l with source := src }
  | .hostBit => if v.toNat ≤ 1 then some { l with hostBit := v.getLsbD 0 } else none
  | .onLevel => if v.toNat ≤ 63 then some { l with onLevel := v.setWidth 6 } else none
  | .offLevel => if v.toNat ≤ 63 then some { l with offLevel := v.setWidth 6 } else none
  | .flags => if v.toNat ≤ 3 then some { l with dozeDark := v.getLsbD 0, invert := v.getLsbD 1 } else none
  | .currentLevel => none

/-- A line whose fade interval is changed (11, R174): a jump at interval 0, else the timer starts afresh while the
level differs from the target. -/
def IndicatorLine.changeFade (l : IndicatorLine) (fade : BitVec 4) (target : BitVec 6) : IndicatorLine :=
  if fade = l.fade then l
  else if fade = 0 then { l with fade := 0, level := target, timer := none }
  else if l.level = target then { l with fade := fade, timer := none }
  else { l with fade := fade, timer := some (8 * fade.toNat) }

/-- A write is ignored (12, R182). -/
def State.ignoreWrite (s : State) : State := s.withPort { s.port with writeIgnored := true }

/-- A line is stored. -/
def State.setLine (s : State) (i : LineId) (l : IndicatorLine) : State := s.withLines (put s.lines i l)

/-- A byte written to an item of a line (11, R170). -/
def State.writeIndicator (s : State) (i : LineId) (item : IndicatorItem) (v : Byte) : State :=
  match s.lines[i].writeItem item v with
  | some l => s.setLine i l
  | none => s.ignoreWrite

/-- A byte written to the fade interval of a line (11, R170, R174). -/
def State.writeFade (s : State) (i : LineId) (v : Byte) : State :=
  if v.toNat ≤ 15 then s.setLine i (s.lines[i].changeFade (v.setWidth 4) (s.targetLevel s.lines[i]))
  else s.ignoreWrite

/-- One level toward the target (11, R173). -/
def stepToward (level target : BitVec 6) : BitVec 6 :=
  if level < target then level + 1 else if target < level then level - 1 else level

/-- A fade step (11, R173): the timer runs on while the level still differs from the target. -/
def IndicatorLine.fadeStep (l : IndicatorLine) (target : BitVec 6) : IndicatorLine :=
  let level := stepToward l.level target
  { l with level := level, timer := if level = target then none else some l.interval }

/-- The fade timer of a line expires (11, R173). -/
def State.expireFadeTimer (s : State) (i : LineId) : State :=
  match s.lines[i].timer with
  | none => s
  | some _ => s.setLine i (s.lines[i].fadeStep (s.targetLevel s.lines[i]))

/-- A frame starts: duty and sense are fixed from the level and the invert flag (11, R175). -/
def State.startFrame (s : State) : State :=
  s.withLines <| tab fun i =>
    { s.lines[i] with frameDuty := s.lines[i].level, frameInvert := s.lines[i].invert }

/-- The line is driven high at a moment of its frame, given in 63rds of the frame's length (11, R175): on for the
duty from the frame's start, driven low while on unless inverted. -/
def IndicatorLine.drivenHigh (l : IndicatorLine) (moment : Nat) : Bool :=
  decide (moment < l.frameDuty.toNat) == l.frameInvert

/-- The pulse timer expires: the pulse ends (6, R117). -/
def State.endPulse (s : State) : State := s.withQueue { s.queue with pulse := false }

/-- FADE_TIMER_EXPIRY (11, R173). A stopped timer does not expire, and nothing happens. -/
def execFadeTimerExpiry (line : LineId) (s : State) : Host.Outcome State Fault Refusal :=
  .next (s.inside fun s => s.expireFadeTimer line)

/-- PWM_FRAME (11, R175). -/
def execPwmFrame (s : State) : Host.Outcome State Fault Refusal := .next (s.inside State.startFrame)

/-- PULSE_TIMER_EXPIRY (6, R117). -/
def execPulseTimerExpiry (s : State) : Host.Outcome State Fault Refusal := .next (s.inside State.endPulse)

end Sys2Proof.Machine
end

