-- ==== Sys2Proof/Machine/Resets.lean ====
section
/-! DEFINITION. The resets: the end of a RESET's write transaction (7, R131 to R133), RESETn and the start-up time
(12, R185), and their commands. -/

namespace Sys2Proof.Machine

/-- A key record after a warm reset (3, R62). -/
def warmKey (listed : Bool) (k : KeyRecord) : KeyRecord :=
  { KeyRecord.powerOn with
    state := if listed then .cal else .off
    baseline := k.baseline
    lastCount := k.lastCount
    trimStatus := k.trimStatus }

/-- The queue after a warm reset: filter and ATTN mode kept (6, R119). -/
def warmQueue (q : EventQueue) : EventQueue :=
  { q with records := [], hold := .free, lost := 0, pulse := false }

/-- A line after a warm reset, before its target is derived afresh: dark, its timer stopped, and the frame in
progress ended with the line off in its sense (11, R176, log 11). -/
def warmLine (l : IndicatorLine) : IndicatorLine := { l with level := 0, timer := none, frameDuty := 0 }

/-- Every line meets the target derived afresh (11, R176). -/
def State.meetAll (s : State) : State :=
  s.withLines (tab fun i => s.lines[i].meet (s.targetLevel s.lines[i]))

/-- The warm reset, at the end of the transaction that carried it (7, R132). -/
def State.warmReset (s : State) : State :=
  State.meetAll
    { s with
      port := { s.port with latch := none, transaction := none }
      store := { s.store with snapshot := none }
      engine := { hop := tab fun _ => lowestHop s.live.globals.hopSet, current := none }
      scan := ScanController.powerOn
      keys := tab fun c => warmKey (s.live.listed c) s.keys[c]
      groups := tab fun _ => GroupRun.cleared
      queue := warmQueue s.queue
      command := CommandUnit.powerOn
      trimRun := none
      lines := tab fun i => warmLine s.lines[i] }

/-- Every block at its power-on values, with the given power condition, bus address and open transaction. The model's
own fields are kept. -/
def State.powerOnValues (s : State) (power : Power) (address : BitVec 7) (transaction : Option Transaction) : State :=
  { State.reset with
    power := power
    port := { HostPort.powerOn address with transaction := transaction }
    freeDraws := s.freeDraws
    pending := s.pending }

/-- The cold reset (7, R133), at the end of the transaction that carried it: the bus address is not sampled again. -/
def State.coldReset (s : State) : State := s.powerOnValues s.power s.port.busAddress none

/-- The end of the write transaction that carried a RESET of the kind (7, R131). With no RESET of that kind
pending, nothing takes effect. -/
def State.endTransaction (s : State) (kind : ResetKind) (reset : State → State) : State :=
  if s.power ≠ .heldInReset ∧ s.command.pendingReset = some kind then reset s else s

/-- What RESETn leaves of the open transaction (12, R185): the host's bytes of a write may go on, and the port takes none of
them; of a read it sends no further byte. -/
def HostPort.abandoned (p : HostPort) : Option Transaction :=
  match p.transaction with
  | some (.answered .write) => some (.left p.pointer)
  | some (.answered .read) => none
  | some (.left next) => some (.left next)
  | none => none

/-- RESETn is held low (12, R185): the power-on condition, nothing answered, and the transaction in progress
abandoned. -/
def State.holdInReset (s : State) : State := s.powerOnValues .heldInReset s.port.busAddress s.port.abandoned

/-- The release of RESETn, or a valid supply (12, R185): ADDR is sampled, and the start-up time begins. -/
def State.release (s : State) (addrHigh : Bool) : State :=
  s.powerOnValues .startUp (busAddressOf addrHigh) s.port.abandoned

/-- The start-up time ends (12, R185). -/
def State.endStartUp (s : State) : State := if s.power = .startUp then s.withPower .answering else s

/-- WARM_RESET (7, R132). -/
def execWarmReset (s : State) : Host.Outcome State Fault Refusal := .next (s.endTransaction .warm State.warmReset)

/-- COLD_RESET (7, R133). -/
def execColdReset (s : State) : Host.Outcome State Fault Refusal := .next (s.endTransaction .cold State.coldReset)

/-- RESETN_ASSERT (12, R185). -/
def execResetnAssert (s : State) : Host.Outcome State Fault Refusal := .next s.holdInReset

/-- RESETN_RELEASE (12, R185). -/
def execResetnRelease (addrHigh : Bool) (s : State) : Host.Outcome State Fault Refusal := .next (s.release addrHigh)

/-- START_UP_TIME_END (12, R185). -/
def execStartUpTimeEnd (s : State) : Host.Outcome State Fault Refusal := .next s.endStartUp

end Sys2Proof.Machine
end

