-- ==== Sys2Proof/Machine/Window.lean ====
section
/-! DEFINITION. The register window (12, R181 to R184): what each address shows on each page, what a byte written
there does, the queue port's reads (6, R110, R111), and the read latch (R183). -/

namespace Sys2Proof.Machine

/-! ## Bytes of wider fields, little-endian (12, R184) -/

/-- Byte `i` of a field, byte 0 the least significant. -/
def byteAt {w : Nat} (v : BitVec w) (i : Nat) : Byte := v.extractLsb' (8 * i) 8

/-- A 16-bit field with its low byte replaced. -/
def setLow (v : BitVec 16) (b : Byte) : BitVec 16 := byteAt v 1 ++ b

/-- A 16-bit field with its high byte replaced. -/
def setHigh (v : BitVec 16) (b : Byte) : BitVec 16 := b ++ byteAt v 0

/-- A flag in bit 0. -/
def flagByte (b : Bool) : Byte := if b then 1 else 0

/-! ## The configuration pages -/

/-- The global parameters at offset `off` from 0x20 (page 0 and page 8). -/
def Globals.read (g : Globals) (off : Nat) : Option Byte :=
  match off with
  | 0 => some g.calSamples
  | 1 => some (byteAt g.calSpread 0)
  | 2 => some (byteAt g.calSpread 1)
  | 3 => some g.driftInterval
  | 4 => some g.driftStep
  | 5 => some g.negLimit
  | 6 => some g.negRounds
  | 7 => some (byteAt g.noiseLimit 0)
  | 8 => some (byteAt g.noiseLimit 1)
  | 9 => some (g.hopSet.setWidth 8)
  | 10 => some g.hopRetries
  | 11 => some g.faultRounds
  | 12 => some g.roundPeriod
  | 13 => some g.dozePeriod
  | 14 => some g.dozeAfter
  | 15 => some (byteAt g.targetLo 0)
  | 16 => some (byteAt g.targetLo 1)
  | 17 => some (byteAt g.targetHi 0)
  | 18 => some (byteAt g.targetHi 1)
  | _ => none

/-- The global parameters with a byte stored at offset `off` from 0x20 (8, R135; 12, R182). -/
def Globals.write (g : Globals) (off : Nat) (v : Byte) : Option Globals :=
  match off with
  | 0 => some { g with calSamples := v }
  | 1 => some { g with calSpread := setLow g.calSpread v }
  | 2 => some { g with calSpread := setHigh g.calSpread v }
  | 3 => some { g with driftInterval := v }
  | 4 => some { g with driftStep := v }
  | 5 => some { g with negLimit := v }
  | 6 => some { g with negRounds := v }
  | 7 => some { g with noiseLimit := setLow g.noiseLimit v }
  | 8 => some { g with noiseLimit := setHigh g.noiseLimit v }
  | 9 => some { g with hopSet := v.setWidth 5 }
  | 10 => some { g with hopRetries := v }
  | 11 => some { g with faultRounds := v }
  | 12 => some { g with roundPeriod := v }
  | 13 => some { g with dozePeriod := v }
  | 14 => some { g with dozeAfter := v }
  | 15 => some { g with targetLo := setLow g.targetLo v }
  | 16 => some { g with targetLo := setHigh g.targetLo v }
  | 17 => some { g with targetHi := setLow g.targetHi v }
  | 18 => some { g with targetHi := setHigh g.targetHi v }
  | _ => none

/-- The scan list at offset `off` from 0x40: the count, then the entries. -/
def ScanEntries.read (e : ScanEntries) (off : Nat) : Option Byte :=
  if off = 0 then some e.count
  else if h : 1 ≤ off ∧ off ≤ 24 then some e.entries[off - 1] else none

/-- The scan list with a byte stored at offset `off` from 0x40. -/
def ScanEntries.write (e : ScanEntries) (off : Nat) (v : Byte) : Option ScanEntries :=
  if off = 0 then some { e with count := v }
  else if h : 1 ≤ off ∧ off ≤ 24 then some { e with entries := put e.entries ⟨off - 1, by omega⟩ v } else none

/-- A channel configuration at an offset (pages 1, 2, 9 and 10). -/
def ChannelConfig.read (c : ChannelConfig) (off : Nat) : Option Byte :=
  match off with
  | 0 => some (byteAt c.electrodes 0)
  | 1 => some (byteAt c.electrodes 1)
  | 2 => some (byteAt c.electrodes 2)
  | 3 => some (c.trim.setWidth 8)
  | 4 => some c.burst
  | 5 => some (byteAt c.ceiling 0)
  | 6 => some (byteAt c.ceiling 1)
  | 7 => some (byteAt c.floor 0)
  | 8 => some (byteAt c.floor 1)
  | 9 => some c.touch
  | 10 => some c.release
  | 11 => some c.prox
  | 12 => some c.downDebounce
  | 13 => some c.upDebounce
  | 14 => some c.maxOn
  | 15 => some (flagByte c.wake)
  | _ => none

/-- A channel configuration with a byte stored at an offset; trim is stored modulo 64, wake by bit 0 (8, R135;
12, R182). -/
def ChannelConfig.write (c : ChannelConfig) (off : Nat) (v : Byte) : Option ChannelConfig :=
  match off with
  | 0 => some { c with electrodes := byteAt c.electrodes 2 ++ byteAt c.electrodes 1 ++ v }
  | 1 => some { c with electrodes := byteAt c.electrodes 2 ++ v ++ byteAt c.electrodes 0 }
  | 2 => some { c with electrodes := v ++ byteAt c.electrodes 1 ++ byteAt c.electrodes 0 }
  | 3 => some { c with trim := v.setWidth 6 }
  | 4 => some { c with burst := v }
  | 5 => some { c with ceiling := setLow c.ceiling v }
  | 6 => some { c with ceiling := setHigh c.ceiling v }
  | 7 => some { c with floor := setLow c.floor v }
  | 8 => some { c with floor := setHigh c.floor v }
  | 9 => some { c with touch := v }
  | 10 => some { c with release := v }
  | 11 => some { c with prox := v }
  | 12 => some { c with downDebounce := v }
  | 13 => some { c with upDebounce := v }
  | 14 => some { c with maxOn := v }
  | 15 => some { c with wake := v.getLsbD 0 }
  | _ => none

/-- A group definition at an offset (pages 3 and 11). -/
def GroupDef.read (d : GroupDef) (off : Nat) : Option Byte :=
  if off = 0 then some d.kind
  else if off = 1 then some d.count
  else if h : 2 ≤ off ∧ off ≤ 9 then some d.members[off - 2]
  else if off = 10 then some d.moveThreshold
  else none

/-- A group definition with a byte stored at an offset. -/
def GroupDef.write (d : GroupDef) (off : Nat) (v : Byte) : Option GroupDef :=
  if off = 0 then some { d with kind := v }
  else if off = 1 then some { d with count := v }
  else if h : 2 ≤ off ∧ off ≤ 9 then some { d with members := put d.members ⟨off - 2, by omega⟩ v }
  else if off = 10 then some { d with moveThreshold := v }
  else none

/-- The channel whose entry holds address `a` on a page of channels that begins with channel `first`
(base 0x20 + 16 × (c mod 12)). -/
def channelAt (first a : Nat) : Option Channel :=
  if h : 0x20 ≤ a ∧ a < 0xE0 ∧ first ≤ 12 then some ⟨first + (a - 0x20) / 16, by omega⟩ else none

/-- The group whose definition holds address `a` (base 0x20 + 16 × g). -/
def groupAt (a : Nat) : Option GroupId :=
  if h : 0x20 ≤ a ∧ a < 0x80 then some ⟨(a - 0x20) / 16, by omega⟩ else none

/-- The offset of an address in a 16-byte entry. -/
def entryOffset (a : Nat) : Nat := (a - 0x20) % 16

/-- A copy of the configuration at address `a` of its page `sub`, 0 to 3 (12, R181, R184). -/
def Configuration.read (cfg : Configuration) (sub a : Nat) : Option Byte :=
  match sub with
  | 0 => if 0x40 ≤ a then cfg.scan.read (a - 0x40) else cfg.globals.read (a - 0x20)
  | 1 => (channelAt 0 a).bind fun c => cfg.channels[c].read (entryOffset a)
  | 2 => (channelAt 12 a).bind fun c => cfg.channels[c].read (entryOffset a)
  | 3 => (groupAt a).bind fun g => cfg.groups[g].read (entryOffset a)
  | _ => none

/-- A channel's configuration with a byte stored. -/
def Configuration.writeChannel (cfg : Configuration) (c : Channel) (off : Nat) (v : Byte) : Option Configuration :=
  (cfg.channels[c].write off v).map fun ch => { cfg with channels := put cfg.channels c ch }

/-- A copy of the configuration with a byte stored at address `a` of its page `sub`; none where the layout assigns
no field (8, R135; 12, R181). -/
def Configuration.write (cfg : Configuration) (sub a : Nat) (v : Byte) : Option Configuration :=
  match sub with
  | 0 =>
    if 0x40 ≤ a then (cfg.scan.write (a - 0x40) v).map fun e => { cfg with scan := e }
    else (cfg.globals.write (a - 0x20) v).map fun g => { cfg with globals := g }
  | 1 => (channelAt 0 a).bind fun c => cfg.writeChannel c (entryOffset a) v
  | 2 => (channelAt 12 a).bind fun c => cfg.writeChannel c (entryOffset a) v
  | 3 =>
    (groupAt a).bind fun g =>
      (cfg.groups[g].write (entryOffset a) v).map fun d => { cfg with groups := put cfg.groups g d }
  | _ => none

/-! ## The status pages and the indicator page -/

/-- A channel's live status at an offset (pages 4 and 5). -/
def keyStatus (k : KeyRecord) (hop : Hop) (off : Nat) : Option Byte :=
  match off with
  | 0 => some k.state.code
  | 1 => some (flagByte k.near)
  | 2 => some k.faultKind.code
  | 3 => some k.trimStatus.code
  | 4 => some (idByte hop)
  | 5 => some (byteAt (BitVec.ofNat 16 k.baseline) 0)
  | 6 => some (byteAt (BitVec.ofNat 16 k.baseline) 1)
  | 7 => some (byteAt (BitVec.ofNat 16 k.lastCount) 0)
  | 8 => some (byteAt (BitVec.ofNat 16 k.lastCount) 1)
  | 9 => some (byteAt (BitVec.ofInt 16 k.lastDelta) 0)
  | 10 => some (byteAt (BitVec.ofInt 16 k.lastDelta) 1)
  | _ => none

/-- A group's live status at an offset (page 5). -/
def groupStatus (r : GroupRun) (off : Nat) : Option Byte :=
  match off with
  | 0 => some (flagByte r.touched)
  | 1 => some (shownPosition r.position)
  | 2 => some (shownPosition r.reported)
  | _ => none

/-- The group whose status holds address `a` on page 5 (base 0xE0 + 4 × g). -/
def groupStatusAt (a : Nat) : Option GroupId :=
  if h : 0xE0 ≤ a ∧ a < 0xF8 then some ⟨(a - 0xE0) / 4, by omega⟩ else none

/-- The line whose entry holds address `a` on page 6 (base 0x20 + 8 × n). -/
def lineAt (a : Nat) : Option LineId :=
  if h : 0x20 ≤ a ∧ a < 0x60 then some ⟨(a - 0x20) / 8, by omega⟩ else none

/-- An indicator line at an offset (page 6). -/
def IndicatorLine.read (l : IndicatorLine) (off : Nat) : Option Byte :=
  match off with
  | 0 => some l.source.code
  | 1 => some (flagByte l.hostBit)
  | 2 => some (l.onLevel.setWidth 8)
  | 3 => some (l.offLevel.setWidth 8)
  | 4 => some (l.fade.setWidth 8)
  | 5 => some (bitAt l.dozeDark 0 ||| bitAt l.invert 1)
  | 6 => some (l.level.setWidth 8)
  | _ => none

/-- The offset of an item in a line's entry (12, R184, page 6). -/
def itemOffset : IndicatorItem → Nat
  | .source => 0
  | .hostBit => 1
  | .onLevel => 2
  | .offLevel => 3
  | .flags => 5
  | .currentLevel => 6

/-- The address of an item of a line (12, R184, page 6). -/
def itemAddress (line : LineId) (offset : Nat) : Byte := BitVec.ofNat 8 (0x20 + 8 * line.val + offset)

/-! ## Reading the window -/

/-- The common region's byte at address `a`, as it stands (12, R184). The queue port, 0x10 to 0x13, is read by
`State.readAt` alone. -/
def State.commonByte (s : State) (a : Nat) : Byte :=
  if a = 0x00 then 0xD2
  else if a = 0x01 then 0x11
  else if a = 0x02 then statusByte s
  else if a = 0x03 then stickyByte s
  else if a = 0x04 then s.command.arg0
  else if a = 0x05 then s.command.arg1
  else if a = 0x06 then s.command.report.code
  else if a = 0x07 then s.command.report.result.code
  else if a = 0x08 then s.command.report.detail
  else if a = 0x09 then BitVec.ofNat 8 s.queue.records.length
  else if a = 0x0A then s.queue.filter.setWidth 8
  else if a = 0x0B then s.queue.attnMode.code
  else if a = 0x0C then byteAt s.scan.counter 0
  else if a = 0x0D then byteAt s.scan.counter 1
  else if a = 0x0E then BitVec.ofNat 8 (s.scan.inactivity / 8)
  else if a = 0x1F then s.port.page
  else 0

/-- The byte of a page at address `a`, as it stands; 0 where nothing is assigned (12, R181). -/
def State.pageByte (s : State) (page a : Nat) : Byte :=
  if page ≤ 3 then (s.store.staging.read page a).getD 0
  else if page = 4 then ((channelAt 0 a).bind fun c => keyStatus s.keys[c] s.engine.hop[c] (entryOffset a)).getD 0
  else if page = 5 then
    (match groupStatusAt a with
      | some g => groupStatus s.groups[g] ((a - 0xE0) % 4)
      | none => (channelAt 12 a).bind fun c => keyStatus s.keys[c] s.engine.hop[c] (entryOffset a)).getD 0
  else if page = 6 then ((lineAt a).bind fun i => s.lines[i].read ((a - 0x20) % 8)).getD 0
  else if 8 ≤ page ∧ page ≤ 11 then (s.store.live.read (page - 8) a).getD 0
  else 0

/-- The byte an address shows, as it stands (12, R181, R184). -/
def State.liveByte (s : State) (address : Byte) : Byte :=
  if address.toNat < 0x20 then s.commonByte address.toNat else s.pageByte s.port.page.toNat address.toNat

/-- A latched field: its page (`none` for the common region, log 10), lowest address and number of bytes. -/
structure LatchedField where
  page : Option Byte
  base : Nat
  width : Nat
  deriving DecidableEq, Repr

/-- The latched field that holds address `a` on a page (12, R183). -/
def latchedFieldAt (page : Byte) (a : Nat) : Option LatchedField :=
  let off := entryOffset a
  let entry : Nat → Nat → Option LatchedField := fun first width => some ⟨some page, a - off + first, width⟩
  if a = 0x0C ∨ a = 0x0D then some ⟨none, 0x0C, 2⟩
  else if a < 0x20 then none
  else if page = 4 ∨ page = 5 then
    if 0xE0 ≤ a then none
    else if off = 5 ∨ off = 6 then entry 5 2
    else if off = 7 ∨ off = 8 then entry 7 2
    else if off = 9 ∨ off = 10 then entry 9 2
    else none
  else if page = 8 then
    if a = 0x21 ∨ a = 0x22 then some ⟨some page, 0x21, 2⟩
    else if a = 0x27 ∨ a = 0x28 then some ⟨some page, 0x27, 2⟩
    else if a = 0x2F ∨ a = 0x30 then some ⟨some page, 0x2F, 2⟩
    else if a = 0x31 ∨ a = 0x32 then some ⟨some page, 0x31, 2⟩
    else none
  else if page = 9 ∨ page = 10 then
    if 0xE0 ≤ a then none
    else if off ≤ 2 then entry 0 3
    else if off = 5 ∨ off = 6 then entry 5 2
    else if off = 7 ∨ off = 8 then entry 7 2
    else none
  else none

/-- The copy a read of a field's lowest byte takes (12, R183). -/
def State.copyField (s : State) (f : LatchedField) : Latch :=
  ⟨f.page, f.base, (List.range f.width).map fun i => s.liveByte (BitVec.ofNat 8 (f.base + i))⟩

/-- The port sends a byte (12, R180). -/
def State.send (s : State) (b : Byte) : State := s.withPort { s.port with sent := some b }

/-- A read inside a latched field (12, R183). -/
def State.readField (s : State) (f : LatchedField) (address : Byte) : State :=
  if address.toNat = f.base then
    (s.withPort { s.port with latch := some (s.copyField f) }).send (s.liveByte address)
  else
    match s.port.latch with
    | some l =>
      if l.page = f.page ∧ l.base = f.base then s.send (l.copy.getD (address.toNat - f.base) 0)
      else s.send (s.liveByte address)
    | none => s.send (s.liveByte address)

/-- A read of 0x10 (6, R110). -/
def State.readKind (s : State) : State :=
  match s.queue.records with
  | [] => (s.withQueue { s.queue with hold := .free }).send 0
  | head :: _ => (s.withQueue { s.queue with hold := .held }).send head.kind.code

/-- What a read of 0x11 to 0x13 returns (6, R111): nothing in VOID or of an empty queue, else the head's field. -/
def EventQueue.portField (q : EventQueue) (field : EventRecord → Byte) : Byte :=
  match q.hold, q.records with
  | .void, _ => 0
  | _, [] => 0
  | _, head :: _ => field head

/-- The queue after a read of 0x13 (6, R111): a held head is popped, VOID ends. -/
def EventQueue.afterValueB (q : EventQueue) : EventQueue :=
  match q.hold with
  | .held => q.popHead
  | .void => { q with hold := .free }
  | .free => q

/-- A read of 0x13 (6, R111). -/
def State.readValueB (s : State) : State :=
  (s.withQueue s.queue.afterValueB).send (s.queue.portField EventRecord.valueB)

/-- A read of an address, with its side effects (12, R180). -/
def State.readAt (s : State) (address : Byte) : State :=
  if address = 0x10 then s.readKind
  else if address = 0x11 then s.send (s.queue.portField EventRecord.index)
  else if address = 0x12 then s.send (s.queue.portField EventRecord.valueA)
  else if address = 0x13 then s.readValueB
  else
    match latchedFieldAt s.port.page address.toNat with
    | some f => s.readField f address
    | none => s.send (s.liveByte address)

/-- A byte read by the host: the read, and the port after it (12, R180). -/
def State.hostRead (s : State) (address : Byte) : State := (s.readAt address).pointAfter address .read

/-! ## Writing the window -/

/-- A byte written to 0x03 (12, R182): a 1 clears the flag in its position. -/
def State.writeSticky (s : State) (v : Byte) : State :=
  { s with
    scan := { s.scan with overrun := s.scan.overrun && !v.getLsbD 0 }
    command := { s.command with rejected := s.command.rejected && !v.getLsbD 1 }
    port := { s.port with writeIgnored := s.port.writeIgnored && !v.getLsbD 2 } }

/-- A byte written to 0x0A (6, R104; 12, R182): position 7 is discarded. -/
def State.writeFilter (s : State) (v : Byte) : State := s.withQueue { s.queue with filter := v.setWidth 7 }

/-- A byte written to 0x0B (6, R115): a change of mode ends a pulse, 3 to 255 is ignored. -/
def State.writeAttnMode (s : State) (v : Byte) : State :=
  match attnModeOf v with
  | none => s.ignoreWrite
  | some m => if m = s.queue.attnMode then s else s.withQueue { s.queue with attnMode := m, pulse := false }

/-- A byte written to 0x1F (12, R181). -/
def State.writePage (s : State) (v : Byte) : State := s.withPort { s.port with page := v }

/-- A byte written to ARG0 (7, R120). -/
def State.writeArg0 (s : State) (v : Byte) : State := s.withCommand { s.command with arg0 := v }

/-- A byte written to ARG1 (7, R120). -/
def State.writeArg1 (s : State) (v : Byte) : State := s.withCommand { s.command with arg1 := v }

/-- A byte written in the common region (12, R184); read-only and unassigned addresses ignore it (R182). -/
def State.writeCommon (s : State) (a : Nat) (v : Byte) : State :=
  if a = 0x03 then s.writeSticky v
  else if a = 0x04 then s.writeArg0 v
  else if a = 0x05 then s.writeArg1 v
  else if a = 0x06 then s.commandRequest v
  else if a = 0x0A then s.writeFilter v
  else if a = 0x0B then s.writeAttnMode v
  else if a = 0x1F then s.writePage v
  else s.ignoreWrite

/-- A byte written to a staging page (8, R135). -/
def State.writeStaging (s : State) (page a : Nat) (v : Byte) : State :=
  match s.store.staging.write page a v with
  | some cfg => s.withStore { s.store with staging := cfg }
  | none => s.ignoreWrite

/-- The item at an offset of a line's entry; none for the fade interval and for offset 7. -/
def itemOf (off : Nat) : Option IndicatorItem :=
  match off with
  | 0 => some .source
  | 1 => some .hostBit
  | 2 => some .onLevel
  | 3 => some .offLevel
  | 5 => some .flags
  | 6 => some .currentLevel
  | _ => none

/-- A byte written on page 6 (11, R170). -/
def State.writeLinePage (s : State) (a : Nat) (v : Byte) : State :=
  match lineAt a with
  | none => s.ignoreWrite
  | some i =>
    if (a - 0x20) % 8 = 4 then s.writeFade i v
    else
      match itemOf ((a - 0x20) % 8) with
      | some item => s.writeIndicator i item v
      | none => s.ignoreWrite

/-- A byte written in the paged region (12, R181, R182). -/
def State.writePaged (s : State) (page a : Nat) (v : Byte) : State :=
  if page ≤ 3 then s.writeStaging page a v
  else if page = 6 then s.writeLinePage a v
  else s.ignoreWrite

/-- A byte written at an address (12, R179). -/
def State.writeAt (s : State) (address v : Byte) : State :=
  if address.toNat < 0x20 then s.writeCommon address.toNat v
  else s.writePaged s.port.page.toNat address.toNat v

/-- A byte written by the host, as one event: the write, the port after it, and the lines whose target changed
(12, R179; 11, R172). -/
def State.hostWrite (s : State) (address v : Byte) : State :=
  State.driveFrom s ((s.writeAt address v).pointAfter address .write)

end Sys2Proof.Machine
end

