-- ==== Sys2Proof/Machine/HostPort.lean ====
section
/-! DEFINITION. The commands the host gives by writing a byte to CMD, and its other writes and reads. A row that
names an address is the byte at that address, wherever the pointer stood before (log 2): a further byte of the open
transaction where that stands there, else of a transaction of its own (log 13). After it the pointer stands one further
(12, R179, R180). -/

namespace Sys2Proof.Machine

/-- A byte written to CMD (7, R120). -/
def State.commandByte (s : State) (code : Byte) : State := s.onBus .write 0x06 fun s => s.hostWrite 0x06 code

/-- START (2, R28). -/
def execStart (s : State) : Host.Outcome State Fault Refusal := .next (s.commandByte CommandName.start.code)

/-- STOP (2, R29). -/
def execStop (s : State) : Host.Outcome State Fault Refusal := .next (s.commandByte CommandName.stop.code)

/-- COMMIT (7, R126). -/
def execCommit (s : State) : Host.Outcome State Fault Refusal := .next (s.commandByte CommandName.commit.code)

/-- RECAL (4, R72). -/
def execRecal (s : State) : Host.Outcome State Fault Refusal := .next (s.commandByte CommandName.recal.code)

/-- TRIM (7, R128). -/
def execTrim (s : State) : Host.Outcome State Fault Refusal := .next (s.commandByte CommandName.trim.code)

/-- DOZE (10, R163). -/
def execDoze (s : State) : Host.Outcome State Fault Refusal := .next (s.commandByte CommandName.doze.code)

/-- WAKE (7, R127). -/
def execWake (s : State) : Host.Outcome State Fault Refusal := .next (s.commandByte CommandName.wake.code)

/-- FLUSH (6, R114). -/
def execFlush (s : State) : Host.Outcome State Fault Refusal := .next (s.commandByte CommandName.flush.code)

/-- ABORT (7, R129). -/
def execAbort (s : State) : Host.Outcome State Fault Refusal := .next (s.commandByte CommandName.abort.code)

/-- RESET (7, R130). -/
def execReset (s : State) : Host.Outcome State Fault Refusal := .next (s.commandByte CommandName.reset.code)

/-- UNKNOWN_CMD (7, R124). -/
def execUnknownCmd (code : Byte) (s : State) : Host.Outcome State Fault Refusal := .next (s.commandByte code)

/-- STICKY_FLAGS_WRITE (12, R182). -/
def execStickyFlagsWrite (value : Byte) (s : State) : Host.Outcome State Fault Refusal :=
  .next (s.onBus .write 0x03 fun s => s.hostWrite 0x03 value)

/-- EVENT_FILTER_WRITE (6, R104). -/
def execEventFilterWrite (value : Byte) (s : State) : Host.Outcome State Fault Refusal :=
  .next (s.onBus .write 0x0A fun s => s.hostWrite 0x0A value)

/-- ATTN_MODE_WRITE (6, R115). -/
def execAttnModeWrite (value : Byte) (s : State) : Host.Outcome State Fault Refusal :=
  .next (s.onBus .write 0x0B fun s => s.hostWrite 0x0B value)

/-- PAGE_SELECTOR_WRITE (12, R181). -/
def execPageSelectorWrite (value : Byte) (s : State) : Host.Outcome State Fault Refusal :=
  .next (s.onBus .write 0x1F fun s => s.hostWrite 0x1F value)

/-- INDICATOR_WRITE (11, R170): the byte at the item's address of page 6; on another page that address is that
page's (12, R181). -/
def execIndicatorWrite (line : LineId) (item : IndicatorItem) (value : Byte) (s : State) :
    Host.Outcome State Fault Refusal :=
  let address := itemAddress line (itemOffset item)
  .next (s.onBus .write address fun s => s.hostWrite address value)

/-- FADE_INTERVAL_WRITE (11, R174): the byte at the fade interval's address of page 6; on another page that address
is that page's (12, R181). -/
def execFadeIntervalWrite (line : LineId) (value : Byte) (s : State) : Host.Outcome State Fault Refusal :=
  let address := itemAddress line 4
  .next (s.onBus .write address fun s => s.hostWrite address value)

/-- REGISTER_WRITE (12, R179): a further byte of the open write transaction, at the address the pointer names. -/
def execRegisterWrite (value : Byte) (s : State) : Host.Outcome State Fault Refusal :=
  .next (s.furtherByte .write fun s => s.hostWrite s.port.pointer value)

/-- The first data byte of a write transaction sets the register pointer (12, R179). -/
def State.setPointer (s : State) (value : Byte) : State :=
  s.withPort { s.port with pointer := value, transaction := some (.answered .write) }

/-- REGISTER_POINTER (12, R179): a write transaction begins. -/
def execRegisterPointer (value : Byte) (s : State) : Host.Outcome State Fault Refusal :=
  .next (s.beginTransaction .write value fun s => s.setPointer value)

/-- HOLD (6, R110). -/
def execHold (s : State) : Host.Outcome State Fault Refusal := .next (s.onBus .read 0x10 fun s => s.hostRead 0x10)

/-- POP (6, R111). -/
def execPop (s : State) : Host.Outcome State Fault Refusal := .next (s.onBus .read 0x13 fun s => s.hostRead 0x13)

/-- LATCHED_FIELD_READ (12, R183): the read at the address the pointer names, a further byte of the open read transaction
that the port answers, or the first of a new one at the pointer as the last transaction left it (R180). -/
def execLatchedFieldRead (s : State) : Host.Outcome State Fault Refusal :=
  .next (s.onBus .read s.port.pointer fun s => s.hostRead s.port.pointer)

end Sys2Proof.Machine
end

