-- ==== Sys2Proof/Machine/Dispatch.lean ====
section
/-! DEFINITION. One arm per command. -/

namespace Sys2Proof.Machine

def exec (i : Instr) (s : State) : Host.Outcome State Fault Refusal :=
  match i with
  | .start => Sys2Proof.Machine.execStart s
  | .stop => Sys2Proof.Machine.execStop s
  | .commit => Sys2Proof.Machine.execCommit s
  | .recal => Sys2Proof.Machine.execRecal s
  | .trim => Sys2Proof.Machine.execTrim s
  | .doze => Sys2Proof.Machine.execDoze s
  | .wake => Sys2Proof.Machine.execWake s
  | .flush => Sys2Proof.Machine.execFlush s
  | .abort => Sys2Proof.Machine.execAbort s
  | .reset => Sys2Proof.Machine.execReset s
  | .unknownCmd code => Sys2Proof.Machine.execUnknownCmd code s
  | .warmReset => Sys2Proof.Machine.execWarmReset s
  | .coldReset => Sys2Proof.Machine.execColdReset s
  | .resetnAssert => Sys2Proof.Machine.execResetnAssert s
  | .resetnRelease addrHigh => Sys2Proof.Machine.execResetnRelease addrHigh s
  | .stickyFlagsWrite value => Sys2Proof.Machine.execStickyFlagsWrite value s
  | .eventFilterWrite value => Sys2Proof.Machine.execEventFilterWrite value s
  | .attnModeWrite value => Sys2Proof.Machine.execAttnModeWrite value s
  | .pageSelectorWrite value => Sys2Proof.Machine.execPageSelectorWrite value s
  | .indicatorWrite line item value => Sys2Proof.Machine.execIndicatorWrite line item value s
  | .fadeIntervalWrite line value => Sys2Proof.Machine.execFadeIntervalWrite line value s
  | .registerWrite value => Sys2Proof.Machine.execRegisterWrite value s
  | .registerPointer value => Sys2Proof.Machine.execRegisterPointer value s
  | .hold => Sys2Proof.Machine.execHold s
  | .pop => Sys2Proof.Machine.execPop s
  | .latchedFieldRead => Sys2Proof.Machine.execLatchedFieldRead s
  | .roundTimerExpiry => Sys2Proof.Machine.execRoundTimerExpiry s
  | .conversion cycles => Sys2Proof.Machine.execConversion cycles s
  | .fadeTimerExpiry line => Sys2Proof.Machine.execFadeTimerExpiry line s
  | .pulseTimerExpiry => Sys2Proof.Machine.execPulseTimerExpiry s
  | .pwmFrame => Sys2Proof.Machine.execPwmFrame s
  | .startUpTimeEnd => Sys2Proof.Machine.execStartUpTimeEnd s

end Sys2Proof.Machine
end

