-- ==== Sys2Proof/Safety.lean ====
section
/-! DEFINITION. The vocabulary of the claims: what an event leaves as it was, the conditions a request meets, the
invariants of the part, and the rows of the manual's tables that claims compare against. -/

namespace Sys2Proof.Machine

/-! ## Frames -/

/-- The parts of the state. -/
inductive Block where
  | power | port | store | engine | scan | keys | groups | queue | command | trimRun | lines | freeDraws | pending
  deriving DecidableEq, Repr

/-- Every part of the state outside `changed` is the same in `t` as in `s`. -/
def Keeps (changed : List Block) (s t : State) : Prop :=
  (.power ∈ changed ∨ t.power = s.power) ∧ (.port ∈ changed ∨ t.port = s.port) ∧
  (.store ∈ changed ∨ t.store = s.store) ∧ (.engine ∈ changed ∨ t.engine = s.engine) ∧
  (.scan ∈ changed ∨ t.scan = s.scan) ∧ (.keys ∈ changed ∨ t.keys = s.keys) ∧
  (.groups ∈ changed ∨ t.groups = s.groups) ∧ (.queue ∈ changed ∨ t.queue = s.queue) ∧
  (.command ∈ changed ∨ t.command = s.command) ∧ (.trimRun ∈ changed ∨ t.trimRun = s.trimRun) ∧
  (.lines ∈ changed ∨ t.lines = s.lines) ∧ (.freeDraws ∈ changed ∨ t.freeDraws = s.freeDraws) ∧
  (.pending ∈ changed ∨ t.pending = s.pending)

/-- The indicator lines after an event that writes none of them: a line whose target the event changed meets its new
target, every other line is as it was (11, R172). -/
def LinesFollow (s t : State) : Prop :=
  ∀ i : LineId, t.lines[i] =
    if s.targetLevel s.lines[i] = t.targetLevel s.lines[i] then s.lines[i]
    else s.lines[i].meet (t.targetLevel s.lines[i])

/-! ## Conditions on the command unit and the bus -/

/-- The part answers, and takes the byte written at an address: that byte belongs to no write transaction it left
unanswered or abandoned (12, R185). -/
def State.AnswersAt (s : State) (address : Byte) : Prop :=
  s.power = .answering ∧ s.port.transaction ≠ some (.left address)

/-- The part answers, and sends the next byte of the open read transaction, or the first of a new one (12, R180,
R185). -/
def State.AnswersReads (s : State) : Prop := s.power = .answering

/-- A byte written to CMD reaches the command unit: the part answers, and no RESET is pending (7, R131). -/
def State.Takes (s : State) : Prop := s.AnswersAt 0x06 ∧ s.command.pendingReset = none

/-- The command unit is IDLE and takes requests (7, R122). -/
def State.Idle (s : State) : Prop :=
  s.AnswersAt 0x06 ∧ s.command.pendingReset = none ∧ s.command.inProgress = none

/-- RESETn is not held low: events inside the part take place (12, R185). -/
def State.Runs (s : State) : Prop := s.power ≠ .heldInReset

/-- A further byte of the open write transaction is taken: the port acknowledged that transaction (12, R179, R185). -/
def State.Writes (s : State) : Prop :=
  s.power ≠ .heldInReset ∧ s.port.transaction = some (.answered .write)

/-- The port after a byte written at an address (12, R179). -/
def HostPort.after (p : HostPort) (address : Byte) : HostPort :=
  { p with pointer := address + 1, transaction := some (.answered .write) }

/-- The port after a byte read at an address (12, R180). -/
def HostPort.afterRead (p : HostPort) (address : Byte) : HostPort :=
  { p with pointer := address + 1, transaction := some (.answered .read) }

/-- The command unit with a new report (7, R121). -/
def CommandUnit.reporting (u : CommandUnit) (code : Byte) (result : ResultCode) (detail : Byte) : CommandUnit :=
  { u with report := ⟨code, result, detail⟩ }

/-- The measurement that a request for channel `c` begins (1, R8, R12). -/
def Configuration.measurementOf (cfg : Configuration) (requester : Requester) (c : Channel) (trim : BitVec 6) :
    Measurement where
  channel := c
  requester := requester
  electrodes := cfg.channels[c].electrodes
  trim := trim
  burstLength := burstLengthOf cfg.channels[c].burst
  ceiling := cfg.channels[c].ceiling.toNat
  floor := cfg.channels[c].floor.toNat
  noiseLimit := cfg.globals.noiseLimit.toNat
  hopSet := cfg.globals.hopSet
  retries := cfg.globals.hopRetries.toNat
  counts := []

/-! ## Rows of the tables of key records -/

/-- A key that has entered CAL, its near flag cleared (3, R39, R40). -/
def KeyRecord.atCal (k : KeyRecord) : KeyRecord :=
  { k with
    state := .cal, debounce := 0, release := 0, onDuration := 0, faultCount := 0, drift := 0, negative := 0,
    faultKind := .none, acc := Accumulator.empty, lastDelta := 0, near := false }

/-- A key that has entered OFF, its near flag cleared (3, R39, R40). -/
def KeyRecord.atOff (k : KeyRecord) : KeyRecord := { k.atCal with state := .off }

/-- A key that has entered IDLE, its near flag cleared (3, R39, R40). -/
def KeyRecord.atIdle (k : KeyRecord) : KeyRecord :=
  { k with state := .idle, debounce := 0, release := 0, onDuration := 0, negative := 0, near := false }

/-- PROX, DETECT, PRESSED or SUPPRESSED: a hand is near or on the key (3, R38). -/
def KeyState.handThere : KeyState → Bool
  | .off => false
  | .cal => false
  | .idle => false
  | .prox => true
  | .detect => true
  | .pressed => true
  | .suppressed => true
  | .fault => false

/-- The records of a key that a forced transition takes out of its state: KEY_UP with the cause where it was PRESSED
and is no SLIDER or WHEEL member, then PROX_OFF where its near flag was set (3, R54, R57). -/
def forcedRecords (sliderMember : Bool) (cause : Byte) (c : Channel) (k : KeyRecord) : List EventRecord :=
  (if k.state = .pressed ∧ sliderMember = false then [⟨.keyUp, idByte c, cause, 0⟩] else []) ++
    (if k.near then [⟨.proxOff, idByte c, 0, 0⟩] else [])

/-- The group is touched and none of its members is PRESSED any more (5, R96). -/
def State.groupLeft (s : State) (keys : Vector KeyRecord 24) (g : GroupId) : Bool :=
  s.groups[g].touched &&
    s.live.groups[g].memberList.all fun c => keys[c].state != .pressed

/-- The group records of a forced transition that leaves the keys `keys`, in group index order (5, R96). -/
def State.groupLeftRecords (s : State) (keys : Vector KeyRecord 24) (cause : Byte) : List EventRecord :=
  allGroups.flatMap fun g =>
    if s.groupLeft keys g = true ∧ s.live.groups[g].hasPosition = true then
      [⟨.groupRelease, idByte g, shownPosition s.groups[g].position, cause⟩]
    else []

/-- The groups of `t` after a forced transition from `s` to the keys of `t` (5, R96). -/
def GroupsFollow (s t : State) : Prop :=
  ∀ g : GroupId, t.groups[g] = if s.groupLeft t.keys g then GroupRun.cleared else s.groups[g]

/-! ## The end of a round -/

/-- The counts of the burst that a conversion of `cycles` transfer cycles ends (1, R1, R3). -/
def Measurement.countsWith (m : Measurement) (cycles : Nat) : List Nat := m.counts ++ [min cycles m.ceiling]

/-- The result of a measurement whose last burst a conversion of `cycles` transfer cycles ends (1, R3, R5). -/
def Measurement.resultWith (m : Measurement) (cycles : Nat) : MeasResult :=
  ⟨m.channel, burstVerdict m (m.countsWith cycles), (m.countsWith cycles).sum / m.burstLength⟩

/-- A conversion of `cycles` transfer cycles ends a measurement: it is the burst's last, and no retry follows (1, R3,
R12). -/
def Measurement.EndsWith (m : Measurement) (cycles : Nat) : Prop :=
  m.counts.length + 1 = m.burstLength ∧ (burstVerdict m (m.countsWith cycles) ≠ .noisy ∨ m.retries = 0)

/-- A conversion of `cycles` transfer cycles gives the round `r` its last result (2, R25, R26). -/
def State.LastResult (s : State) (m : Measurement) (r : Round) (cycles : Nat) : Prop :=
  s.engine.current = some m ∧ m.requester = .scan ∧ m.EndsWith cycles ∧ s.scan.round = some r ∧
  r.measured.length = r.results.length + 1

/-- The command unit after an evaluation that leaves the keys `keys`, with its records: a waiting RECAL loses the keys
that left CAL and counts those that went to FAULT, and ends when none is left (4, R75). -/
def CommandUnit.afterEvaluation (u : CommandUnit) (keys : Vector KeyRecord 24) : CommandUnit × List EventRecord :=
  match u.inProgress with
  | some ⟨.recal waiting faulted, a, b⟩ =>
    let still := waiting.filter fun c => keys[c].state == .cal
    let count := faulted + (waiting.filter fun c => keys[c].state == .fault).length
    if still = [] then
      ({ u.reporting 0x04 .ok (BitVec.ofNat 8 count) with inProgress := none },
        [⟨.cmdDone, 0x04, 0x02, BitVec.ofNat 8 count⟩])
    else ({ u with inProgress := some ⟨.recal still count, a, b⟩ }, [])
  | some ⟨.commit, _, _⟩ => (u, [])
  | some ⟨.trim, _, _⟩ => (u, [])
  | none => (u, [])

/-- The inactivity count after an ACTIVE round that leaves the keys `keys` (10, R160). -/
def quietCount (keys : Vector KeyRecord 24) (count : Nat) : Nat :=
  if ∀ c : Channel, keys[c].state = .off ∨ keys[c].state = .idle ∨ keys[c].state = .fault then min 2040 (count + 1)
  else 0

/-- The inactivity count reaches the limit of doze after (10, R161). -/
abbrev dozesAt (cfg : Configuration) (count : Nat) : Prop :=
  cfg.globals.dozeAfter.toNat ≠ 0 ∧ 8 * cfg.globals.dozeAfter.toNat ≤ count

/-- The first listed wake key out of OFF, IDLE and FAULT, in scan-list order (10, R165). -/
def Configuration.wakingKey (cfg : Configuration) (keys : Vector KeyRecord 24) : Option Channel :=
  cfg.scanList.find? fun c =>
    cfg.channels[c].wake && !(keys[c].state == .off || keys[c].state == .idle || keys[c].state == .fault)

/-! ## The install of a configuration (8) -/

/-- A measurement field of a channel differs (8, R134). -/
def MeasurementDiffers (old new : ChannelConfig) : Prop :=
  old.electrodes ≠ new.electrodes ∨ old.trim ≠ new.trim ∨ old.burst ≠ new.burst ∨ old.ceiling ≠ new.ceiling ∨
  old.floor ≠ new.floor

/-- A detection field of a channel differs (8, R134). -/
def DetectionDiffers (old new : ChannelConfig) : Prop :=
  old.touch ≠ new.touch ∨ old.release ≠ new.release ∨ old.prox ≠ new.prox ∨ old.downDebounce ≠ new.downDebounce ∨
  old.upDebounce ≠ new.upDebounce ∨ old.maxOn ≠ new.maxOn ∨ old.wake ≠ new.wake

/-- The definition of a group has changed: kind, count, stored entries (log 9) or threshold, but not from NONE to NONE
(8, R143). -/
def GroupDiffers (old new : GroupDef) : Prop :=
  ¬ (old.kind = 0 ∧ new.kind = 0) ∧
  (old.kind ≠ new.kind ∨ old.count ≠ new.count ∨ old.members ≠ new.members ∨ old.moveThreshold ≠ new.moveThreshold)

/-- The group of kind other than NONE whose member list holds the channel (8, R143). -/
def Configuration.InGroup (cfg : Configuration) (g : GroupId) (c : Channel) : Prop :=
  cfg.groups[g].kind ≠ 0 ∧ c ∈ cfg.groups[g].memberList

/-- The channel's group has changed, or the definition of its group has (8, R143). -/
def Regrouped (old new : Configuration) (c : Channel) : Prop :=
  ∃ g : GroupId, ¬ (old.InGroup g c ↔ new.InGroup g c) ∨
    (old.InGroup g c ∧ new.InGroup g c ∧ GroupDiffers old.groups[g] new.groups[g])

/-- The table of R143: the key of a channel before and after an install, by the first case that fits (8, R143). -/
def InstallRow (old new : Configuration) (c : Channel) (before after : KeyRecord) : Prop :=
  let was := c ∈ old.scanList
  let is := c ∈ new.scanList
  let remeasured := MeasurementDiffers old.channels[c] new.channels[c]
  let regrouped := Regrouped old new c
  let redetected := DetectionDiffers old.channels[c] new.channels[c]
  (was → ¬ is → after = before.atOff) ∧
  (¬ was → is → after = before.atCal) ∧
  (was → is → remeasured → after = before.atCal) ∧
  (was → is → ¬ remeasured → regrouped →
    after =
      if before.state = .pressed ∨ before.state = .suppressed ∨ before.state = .detect then before.atIdle
      else { before with debounce := 0, release := 0 }) ∧
  (was → is → ¬ remeasured → ¬ regrouped → redetected → after = { before with debounce := 0, release := 0 }) ∧
  (was → is → ¬ remeasured → ¬ regrouped → ¬ redetected → after = before) ∧
  (¬ was → ¬ is → after = before)

/-- The group of an install, before and after, with the keys after it (8, R145; 5, R96). -/
def InstalledGroup (old new : GroupDef) (keys : Vector KeyRecord 24) (before after : GroupRun) : Prop :=
  (GroupDiffers old new → after = GroupRun.cleared) ∧
  (¬ GroupDiffers old new →
    after =
      if before.touched = true ∧ ∀ c ∈ new.memberList, keys[c].state ≠ .pressed then GroupRun.cleared else before)

/-- What the install of `new` makes of `s` (8, R141 to R147), with the records `later` behind its own: the copies, the
hop indices, the keys and the groups, the records in R147's order, MODE where the mode was DOZE, and the end of COMMIT.
The controller's own state and the engine's measurement are left to the round start that carries it. -/
def Installed (s : State) (new : Configuration) (later : List EventRecord) (t : State) : Prop :=
  let old := s.live
  t.store = { s.store with live := new, snapshot := none } ∧
  (∀ c : Channel, t.engine.hop[c] =
    if inHopSet new.globals.hopSet s.engine.hop[c] = true then s.engine.hop[c] else lowestHop new.globals.hopSet) ∧
  (∀ c : Channel, InstallRow old new c s.keys[c] t.keys[c]) ∧
  (∀ g : GroupId, InstalledGroup old.groups[g] new.groups[g] t.keys s.groups[g] t.groups[g]) ∧
  t.command = { s.command.reporting 0x03 .ok 0 with inProgress := none } ∧
  t.queue = s.queue.offerAll
    ((new.scanList ++ allChannels.filter fun c => old.listed c && !new.listed c).flatMap (fun c =>
        if t.keys[c].state ≠ s.keys[c].state then forcedRecords (old.sliderMember c) 0x05 c s.keys[c] else [])
      ++ allGroups.flatMap (fun g =>
        if old.groups[g].hasPosition = true ∧ s.groups[g].touched = true ∧ t.groups[g].touched = false then
          [⟨.groupRelease, idByte g, shownPosition s.groups[g].position, 0x05⟩] else [])
      ++ (if s.scan.mode = .doze then [⟨.mode, 1, 0x03, 0xFF⟩] else [])
      ++ [⟨.cmdDone, 0x03, 0x02, 0⟩] ++ later)

/-- What the start of a round makes of `u`, with the commit of `new` pending and no round in flight (2, R22, R26; 8,
R141, R146): the install, then an ACTIVE round over the new list on the new period; over an empty list the round
completes at once, counts as quiet, and may bring DOZE (10, R160, R161). -/
def InstallStarts (u : State) (new : Configuration) (t : State) : Prop :=
  let inactivity := if u.scan.mode = .doze then 0 else u.scan.inactivity
  let quiet := min 2040 (inactivity + 1)
  let period := new.globals.roundPeriod.toNat
  (∀ (c : Channel) (rest : List Channel), new.scanList = c :: rest →
    Installed u new [] t ∧ t.engine.current = some (new.measurementOf .scan c new.channels[c].trim) ∧
    t.scan = { u.scan with
      mode := .active, inactivity := inactivity, round := some ⟨.active, c :: rest, []⟩, timer := some period,
      due := false }) ∧
  (new.scanList = [] → dozesAt new quiet →
    Installed u new [⟨.mode, 2, 0x01, 0xFF⟩] t ∧ t.engine.current = u.engine.current ∧
    t.scan = { u.scan with
      mode := .doze, inactivity := quiet, counter := u.scan.counter + 1, round := none,
      timer := some (10 * new.globals.dozePeriod.toNat), due := false }) ∧
  (new.scanList = [] → ¬ dozesAt new quiet →
    Installed u new [] t ∧ t.engine.current = u.engine.current ∧
    t.scan = { u.scan with
      mode := .active, inactivity := quiet, counter := u.scan.counter + 1, round := none, timer := some period,
      due := false })

/-! ## The event queue (6) -/

/-- The records that a GROUP_MOVE may coalesce into: all but a held head (6, R107). -/
def EventQueue.unheld (q : EventQueue) : List EventRecord :=
  if q.hold = .held then q.records.tail else q.records

/-- The groups that have an unheld GROUP_MOVE in the queue, in queue order. -/
def EventQueue.moves (q : EventQueue) : List Byte :=
  (q.unheld.filter fun r => r.kind == .groupMove).map EventRecord.index

/-- The queue never holds more than 16 records (R106); the lost count stays in its range (R108) and is above 0 only
while the queue is full (R109); a held head is there (R110); no group has two unheld GROUP_MOVEs (R107); a pulse
runs in PULSE mode only (R117). -/
def EventQueue.Sound (q : EventQueue) : Prop :=
  q.records.length ≤ 16 ∧ q.lost ≤ 255 ∧ (q.lost ≠ 0 → q.records.length = 16) ∧
  (q.hold = .held → q.records ≠ []) ∧ q.moves.Nodup ∧ (q.pulse = true → q.attnMode = .pulse)

/-! ## Keys, groups and lines -/

/-- A key is in OFF exactly when its channel is not listed (3, R38). -/
def State.OffUnlisted (s : State) : Prop := ∀ c : Channel, s.keys[c].state = .off ↔ s.live.listed c = false

/-- The near flag is set in PROX, and clear in IDLE, CAL, FAULT and OFF (3, R39). -/
def KeyRecord.NearFits (k : KeyRecord) : Prop :=
  (k.state = .prox → k.near = true) ∧ (k.near = true → k.state.handThere = true)

/-- The near flag of every key fits its state. -/
def State.NearFits (s : State) : Prop := ∀ c : Channel, s.keys[c].NearFits

/-- The line rests: with fade interval 0 it stands at its target with its timer stopped; otherwise its timer runs,
at its fade interval, exactly while its level differs from its target (11, R173, R174). -/
def State.LineRests (s : State) (l : IndicatorLine) : Prop :=
  if l.fade = 0 then l.level = s.targetLevel l ∧ l.timer = none
  else l.timer = if l.level = s.targetLevel l then none else some l.interval

/-- Every line rests. -/
def State.LinesRest (s : State) : Prop := ∀ i : LineId, s.LineRests s.lines[i]

/-- A group is touched while, and only while, one of its members is PRESSED; a NONE group is not touched; a SLIDER or
WHEEL group has a position and a reported position exactly while it is touched, any other group has none (5, R81). -/
def State.GroupFits (s : State) (g : GroupId) : Prop :=
  let d := s.live.groups[g]
  let pressed := d.groupKind ≠ .none ∧ ∃ c ∈ d.memberList, s.keys[c].state = .pressed
  (s.groups[g].touched = true ↔ pressed) ∧
  (s.groups[g].position.isSome = true ↔ d.hasPosition = true ∧ s.groups[g].touched = true) ∧
  (s.groups[g].reported.isSome = true ↔ d.hasPosition = true ∧ s.groups[g].touched = true)

/-- At most one member of an EXCLUSIVE group is PRESSED (5, R87). -/
def State.OnePressed (s : State) (g : GroupId) : Prop :=
  s.live.groups[g].groupKind = .exclusive →
    ∀ c ∈ s.live.groups[g].memberList, ∀ d ∈ s.live.groups[g].memberList,
      s.keys[c].state = .pressed → s.keys[d].state = .pressed → c = d

/-- Every group's record fits its keys, and every EXCLUSIVE group has at most one PRESSED member. -/
def State.GroupsFit (s : State) : Prop := ∀ g : GroupId, s.GroupFits g ∧ s.OnePressed g

/-- In STOPPED and TRIM no key is in PROX, DETECT, PRESSED or SUPPRESSED (3, R58; 5, R97); in DOZE every listed key
whose wake flag is clear is in IDLE or FAULT (4, R79; 10, R163). -/
def State.ModeQuiet (s : State) : Prop :=
  (s.scan.mode = .stopped ∨ s.scan.mode = .trim → ∀ c : Channel, s.keys[c].state.handThere = false) ∧
  (s.scan.mode = .doze → ∀ c : Channel, s.live.listed c = true → s.live.channels[c].wake = false →
    s.keys[c].state = .idle ∨ s.keys[c].state = .fault)

/-- The key's baseline is in use: it is in IDLE, PROX, DETECT, PRESSED or SUPPRESSED (4, R67). -/
def KeyState.baselineInUse (state : KeyState) : Bool := state == .idle || state.handThere

/-- A baseline in use is not below the channel's floor and is below its ceiling. It rests on two more clauses of the same
kind: the samples of a calibration in progress, and the VALID means of the round in flight, lie in that range (4, R67). -/
def State.BaselinesFit (s : State) : Prop :=
  let floor (c : Channel) : Nat := s.live.channels[c].floor.toNat
  let ceiling (c : Channel) : Nat := s.live.channels[c].ceiling.toNat
  (∀ c : Channel, s.keys[c].state.baselineInUse = true →
    floor c ≤ s.keys[c].baseline ∧ s.keys[c].baseline < ceiling c) ∧
  (∀ c : Channel, s.keys[c].state = .cal →
    s.keys[c].acc.samples * floor c ≤ s.keys[c].acc.sum ∧
    s.keys[c].acc.sum + s.keys[c].acc.samples ≤ s.keys[c].acc.samples * ceiling c) ∧
  (∀ r, s.scan.round = some r → ∀ x ∈ r.results, x.verdict = .valid →
    floor x.channel ≤ x.mean ∧ x.mean < ceiling x.channel)

/-! ## The configuration store -/

/-- The live copy is valid, and so is a pending snapshot (8, R136, R139). -/
def ConfigStore.Valid (st : ConfigStore) : Prop :=
  st.live.valid = true ∧ ∀ cfg, st.snapshot = some cfg → cfg.valid = true

/-! ## The controller, the engine and the command unit -/

/-- Nothing runs in STOPPED (2, R20, R21; 7, R122; 9, R151). -/
def State.StoppedFits (s : State) : Prop :=
  s.scan.round = none ∧ s.scan.timer = none ∧ s.scan.due = false ∧ s.engine.current = none ∧ s.trimRun = none ∧
  s.command.inProgress = none ∧ s.store.snapshot = none

/-- In TRIM the trim unit has one measurement outstanding, that of the channel at its place, and TRIM is the command
in progress (2, R35; 9, R151, R153, R157). -/
def State.TrimFits (s : State) : Prop :=
  s.scan.round = none ∧ s.scan.timer = none ∧ s.scan.due = false ∧ s.store.snapshot = none ∧
  (∃ a b, s.command.inProgress = some ⟨.trim, a, b⟩) ∧
  ∃ t m c, s.trimRun = some t ∧ s.engine.current = some m ∧ t.channels[t.place]? = some c ∧
    t.channels = s.live.scanList ∧ 1 ≤ t.pass ∧ t.pass ≤ 7 ∧ m.channel = c ∧ m.requester = .trim

/-- A round in flight has one measurement outstanding, that of the channel at the scan position (2, R25); without a
round the engine is IDLE (1, R6, R7). -/
def State.RoundFits (s : State) : Prop :=
  match s.scan.round with
  | none => s.engine.current = none
  | some r =>
    r.measured = s.live.measuredChannels r.kind ∧
    ∃ m, s.engine.current = some m ∧ m.requester = .scan ∧ r.measured[r.results.length]? = some m.channel ∧
      r.results.map MeasResult.channel = r.measured.take r.results.length

/-- The round timer (2, R21 to R23, R32): it runs while no round is in flight; in flight, it runs or a round is due,
but for a DOZE round that the return to ACTIVE left running, with neither. -/
def State.TimerFits (s : State) : Prop :=
  match s.scan.round with
  | none => s.scan.timer ≠ none ∧ s.scan.due = false
  | some r =>
    if s.scan.mode = .active ∧ r.kind = .doze then s.scan.timer = none ∧ s.scan.due = false
    else (s.scan.due = true ↔ s.scan.timer = none)

/-- The command in progress in ACTIVE or DOZE: COMMIT exactly while a snapshot is pending (7, R122; 8, R139), RECAL
in ACTIVE with a waiting set whose keys are all in CAL (4, R75), never TRIM. -/
def State.WorkFits (s : State) : Prop :=
  match s.command.inProgress with
  | none => s.store.snapshot = none
  | some ⟨.commit, _, _⟩ => s.store.snapshot ≠ none
  | some ⟨.recal waiting _, _, _⟩ =>
    s.store.snapshot = none ∧ s.scan.mode = .active ∧ waiting ≠ [] ∧ ∀ c ∈ waiting, s.keys[c].state = .cal
  | some ⟨.trim, _, _⟩ => False

/-- What runs in ACTIVE and DOZE; a round in flight in DOZE is a DOZE round (2, R22). -/
def State.ScanFits (s : State) : Prop :=
  s.trimRun = none ∧ s.RoundFits ∧ s.TimerFits ∧ s.WorkFits ∧
  (s.scan.mode = .doze → ∀ r, s.scan.round = some r → r.kind = .doze)

/-- The controller, the engine, the trim unit and the command unit agree with the mode. -/
def State.Controlled (s : State) : Prop :=
  match s.scan.mode with
  | .stopped => s.StoppedFits
  | .trim => s.TrimFits
  | .active => s.ScanFits
  | .doze => s.ScanFits

/-- A measurement in progress works with the live values, and with the live trim where the scan controller asked for it
(1, R8); it has conversions left to make (R3), and no count above its ceiling (R1). -/
def State.Measuring (s : State) : Prop :=
  ∀ m, s.engine.current = some m →
    s.live.channels[m.channel].electrodes = m.electrodes ∧
    (m.requester = .scan → s.live.channels[m.channel].trim = m.trim) ∧
    burstLengthOf s.live.channels[m.channel].burst = m.burstLength ∧
    s.live.channels[m.channel].ceiling.toNat = m.ceiling ∧ s.live.channels[m.channel].floor.toNat = m.floor ∧
    s.live.globals.noiseLimit.toNat = m.noiseLimit ∧ s.live.globals.hopSet = m.hopSet ∧
    m.retries ≤ s.live.globals.hopRetries.toNat ∧ m.counts.length < m.burstLength ∧ ∀ n ∈ m.counts, n ≤ m.ceiling

/-- Every channel's hop index names a frequency of the live hop set (1, R11). -/
def State.HopsFit (s : State) : Prop := ∀ c : Channel, inHopSet s.live.globals.hopSet s.engine.hop[c] = true

/-! ## The mode table (2, R20) -/

/-- The byte a command writes to CMD: the row's code, or the byte of a REGISTER_WRITE with the pointer at CMD. -/
def commandCodeOf (i : Instr) (pointer : Byte) : Option Byte :=
  match i with
  | .start => some 0x01
  | .stop => some 0x02
  | .commit => some 0x03
  | .recal => some 0x04
  | .trim => some 0x05
  | .doze => some 0x06
  | .wake => some 0x07
  | .flush => some 0x08
  | .abort => some 0x09
  | .reset => some 0x0A
  | .unknownCmd code => some code
  | .registerWrite value => if pointer = 0x06 then some value else none
  | .warmReset => none
  | .coldReset => none
  | .resetnAssert => none
  | .resetnRelease _ => none
  | .stickyFlagsWrite _ => none
  | .eventFilterWrite _ => none
  | .attnModeWrite _ => none
  | .pageSelectorWrite _ => none
  | .indicatorWrite _ _ _ => none
  | .fadeIntervalWrite _ _ => none
  | .registerPointer _ => none
  | .hold => none
  | .pop => none
  | .latchedFieldRead => none
  | .roundTimerExpiry => none
  | .conversion _ => none
  | .fadeTimerExpiry _ => none
  | .pulseTimerExpiry => none
  | .pwmFrame => none
  | .startUpTimeEnd => none

/-- The event may end a measurement or start a round of its own: a conversion or the round timer. -/
def isScanEvent : Instr → Bool
  | .conversion _ => true
  | .roundTimerExpiry => true
  | _ => false

/-- The event is a reset (7, R132, R133; 12, R185). -/
def isReset : Instr → Bool
  | .warmReset => true
  | .coldReset => true
  | .resetnAssert => true
  | .resetnRelease _ => true
  | _ => false

/-- The rows of R20's table, with the events that cause them: STOPPED to ACTIVE by START; ACTIVE or DOZE to STOPPED by
STOP; ACTIVE to DOZE by DOZE or at a round; DOZE to ACTIVE by WAKE or RECAL or at a round; STOPPED to TRIM by TRIM;
TRIM to STOPPED at a conversion or by ABORT; any mode to STOPPED by a reset. -/
def modeRow (i : Instr) (pointer : Byte) (old new : Mode) : Prop :=
  old = new ∨ (isReset i = true ∧ new = .stopped) ∨
  match old, new with
  | .stopped, .active => commandCodeOf i pointer = some 0x01
  | .stopped, .trim => commandCodeOf i pointer = some 0x05
  | .active, .stopped => commandCodeOf i pointer = some 0x02
  | .doze, .stopped => commandCodeOf i pointer = some 0x02
  | .active, .doze => commandCodeOf i pointer = some 0x06 ∨ isScanEvent i = true
  | .doze, .active =>
    commandCodeOf i pointer = some 0x07 ∨ commandCodeOf i pointer = some 0x04 ∨ isScanEvent i = true
  | .trim, .stopped => commandCodeOf i pointer = some 0x09 ∨ (∃ n, i = .conversion n)
  | _, _ => False

/-! ## Requests that end at once and do nothing else -/

/-- The requests that an IDLE command unit ends at once with a report and CMD_DONE, detail 0, and no other effect: the
refusals of R124's checks, RECAL without a target (4, R72) and ABORT with nothing to end (7, R129). -/
def EndsAtOnce (s : State) (i : Instr) (code : Byte) (result : ResultCode) : Prop :=
  match i with
  | .start =>
    code = 0x01 ∧ ((s.scan.mode ≠ .stopped ∧ result = .wrongMode) ∨
      (s.scan.mode = .stopped ∧ s.live.scanList = [] ∧ result = .emptyList))
  | .stop => code = 0x02 ∧ s.scan.mode ≠ .active ∧ s.scan.mode ≠ .doze ∧ result = .wrongMode
  | .recal =>
    code = 0x04 ∧
      ((24 ≤ s.command.arg0.toNat ∧ s.command.arg0 ≠ 0xFF ∧ result = .badArg) ∨
        (s.command.arg0 = 0xFF ∧ s.live.scanList = [] ∧ result = .ok) ∨
        (∃ c : Channel, s.command.arg0 = idByte c ∧ s.live.listed c = false ∧ result = .ok))
  | .trim =>
    code = 0x05 ∧ ((s.scan.mode ≠ .stopped ∧ result = .wrongMode) ∨
      (s.scan.mode = .stopped ∧ s.live.scanList = [] ∧ result = .emptyList))
  | .doze =>
    code = 0x06 ∧ result = .wrongMode ∧
      (s.scan.mode ≠ .active ∨
        ∃ c : Channel, s.live.listed c = true ∧ s.live.channels[c].wake = false ∧ s.keys[c].state = .cal)
  | .wake => code = 0x07 ∧ s.scan.mode ≠ .doze ∧ result = .wrongMode
  | .abort => code = 0x09 ∧ result = .nothingPending
  | .reset => code = 0x0A ∧ 2 ≤ s.command.arg0.toNat ∧ result = .badArg
  | .unknownCmd c => code = c ∧ isCommandCode c = false ∧ result = .unknownCmd
  | _ => False

/-- The commands that a BUSY command unit refuses (7, R123). -/
def RefusedWhileBusy : Instr → Prop
  | .start => True
  | .stop => True
  | .commit => True
  | .recal => True
  | .trim => True
  | .doze => True
  | .wake => True
  | .unknownCmd code => isCommandCode code = false
  | _ => False

/-! ## Events that the bus carries, and the addresses rows stand for -/

/-- The address and the byte of a row that stands for a byte written at one address (12, R184). -/
def writtenAt (i : Instr) : Option (Byte × Byte) :=
  match i with
  | .stickyFlagsWrite v => some (0x03, v)
  | .eventFilterWrite v => some (0x0A, v)
  | .attnModeWrite v => some (0x0B, v)
  | .pageSelectorWrite v => some (0x1F, v)
  | .indicatorWrite line item v => some (BitVec.ofNat 8 (0x20 + 8 * line.val + itemOffset item), v)
  | .fadeIntervalWrite line v => some (BitVec.ofNat 8 (0x24 + 8 * line.val), v)
  | .start => some (0x06, 0x01)
  | .stop => some (0x06, 0x02)
  | .commit => some (0x06, 0x03)
  | .recal => some (0x06, 0x04)
  | .trim => some (0x06, 0x05)
  | .doze => some (0x06, 0x06)
  | .wake => some (0x06, 0x07)
  | .flush => some (0x06, 0x08)
  | .abort => some (0x06, 0x09)
  | .reset => some (0x06, 0x0A)
  | .unknownCmd code => some (0x06, code)
  | _ => none

/-- What a command is to the bus (12, R179, R180; log 13). -/
inductive BusRole where
  /-- The first byte of a transaction, or its pointer byte and that byte; the next one stands at `next`. -/
  | begins (direction : Direction) (next : Byte)
  /-- A further byte of the open transaction. -/
  | further (direction : Direction)
  /-- No byte on the bus. -/
  | offBus
  deriving DecidableEq, Repr

/-- The byte at an address goes on with the open transaction where that stands there, and else begins its own. -/
def HostPort.roleAt (p : HostPort) (d : Direction) (address : Byte) : BusRole :=
  if p.transaction = some (.answered d) ∧ p.pointer = address ∨ d = .write ∧ p.transaction = some (.left address) then
    .further d
  else .begins d (address + 1)

/-- The role of each command, by the port it finds. -/
def busRole (i : Instr) (p : HostPort) : BusRole :=
  match i with
  | .registerPointer v => .begins .write v
  | .registerWrite _ => .further .write
  | .hold => p.roleAt .read 0x10
  | .pop => p.roleAt .read 0x13
  | .latchedFieldRead => p.roleAt .read p.pointer
  | _ =>
    match writtenAt i with
    | some (address, _) => p.roleAt .write address
    | none => .offBus

/-! ## Tables of the register window (12, R182 to R184) -/

/-- The latched fields a page shows, each by its lowest address and its number of bytes (12, R183): the round counter
on every page, three fields of each channel on pages 4 and 5, and the fields of two or more bytes on pages 8 to 11. -/
def latchedFields (page : Nat) : List (Nat × Nat) :=
  let entries (fields : List (Nat × Nat)) : List (Nat × Nat) :=
    (List.range 12).flatMap fun n => fields.map fun f => (0x20 + 16 * n + f.1, f.2)
  (0x0C, 2) ::
    (if page = 4 ∨ page = 5 then entries [(5, 2), (7, 2), (9, 2)]
    else if page = 8 then [(0x21, 2), (0x27, 2), (0x2F, 2), (0x31, 2)]
    else if page = 9 ∨ page = 10 then entries [(0, 3), (5, 2), (7, 2)]
    else [])

/-- The latch holds the field with the lowest address `base` on the page; the round counter is one field, whatever the
page (12, R183, log 10). -/
def HostPort.latchHolds (p : HostPort) (page : Byte) (base : Nat) : Prop :=
  ∃ l, p.latch = some l ∧ l.page = (if base = 0x0C then none else some page) ∧ l.base = base

/-- A byte written at the address on the page is ignored whatever its value (12, R182): the read-only and unassigned
addresses of the common region, and every paged address but the assigned ones of pages 0 to 3 and 6. -/
def ignoresEveryWrite (page address : Byte) : Bool :=
  let a := address.toNat
  if a < 0x20 then !([0x03, 0x04, 0x05, 0x06, 0x0A, 0x0B, 0x1F].contains a)
  else if page = 0 then !(decide (a ≤ 0x32) || (decide (0x40 ≤ a) && decide (a ≤ 0x58)))
  else if page = 1 ∨ page = 2 then decide (0xE0 ≤ a)
  else if page = 3 then !(decide (a < 0x80) && decide ((a - 0x20) % 16 ≤ 10))
  else if page = 6 then !(decide (a < 0x60) && decide ((a - 0x20) % 8 ≤ 5))
  else true

/-- What staging keeps of a byte written at an address (12, R182): five positions of the hop set, the trim modulo 64,
bit 0 of wake, the whole byte elsewhere. -/
def storedByte (page address v : Byte) : Byte :=
  let off := (address.toNat - 0x20) % 16
  if page = 0 ∧ address = 0x29 then v &&& 0x1F
  else if (page = 1 ∨ page = 2) ∧ off = 3 then v &&& 0x3F
  else if (page = 1 ∨ page = 2) ∧ off = 15 then v &&& 0x01
  else v

end Sys2Proof.Machine
end

