-- ==== Sys2Proof/Certificates/Slice0/Obligations.lean ====
section
/-! DEFINITION. The statements for the provers, each formalising rules of spec/. A bracketed rule number names a rule of
spec/; a log number names the model's own choice, notes/assumptions/<n>.md, that a clause rests on. Where a statement
compares whole key records, an emptied accumulator has smallest and largest 0, which is log 8. -/

section Statements

open Sys2Proof Sys2Proof.Machine

/-! ## The interface -/

/-- The command at the front of the queue leaves it and has its effect; an empty queue idles (log 1). -/
def Obligations.StepRunsFrontCommand : Prop :=
  (∀ (c : Instr) (s : State) (rest : List Instr),
    s.pending = c :: rest → step s = exec c (s.withPending rest)) ∧
  (∀ s : State, s.pending = [] → step s = .next s)

/-- Every command answers a next state, and leaves the queue of waiting commands to `step`. -/
def Obligations.EveryCommandCompletes : Prop :=
  ∀ (c : Instr) (s : State), ∃ t, exec c s = .next t ∧ t.pending = s.pending

/-- The values after power-on and RESETn release (R16, R36, R62, R100, R119, R138, R176, R185), with the register
window's view of them (R184). The model's choices among them: the start-up time is over (log 4), an empty accumulator's
smallest and largest are 0 (log 8), and the frame in progress is off and not inverted (log 11). -/
def Obligations.ResetValues : Prop :=
  let s := State.reset
  s.power = .answering ∧ (∀ c : Channel, s.engine.hop[c] = 0) ∧ s.engine.current = none ∧
  s.scan = ⟨.stopped, none, none, false, 0, 0, false⟩ ∧
  (∀ c : Channel, s.keys[c] = ⟨.off, 0, 0, 0, 0, 0, 0, 0, .none, false, 0, 0, ⟨0, 0, 0, 0, 1⟩, .none⟩) ∧
  (∀ g : GroupId, s.groups[g] = ⟨false, none, none⟩) ∧
  s.queue = ⟨[], .free, 0, 0b1111111, .level, false⟩ ∧
  s.command = ⟨0, 0, ⟨0, .none, 0⟩, none, false, none⟩ ∧ s.trimRun = none ∧
  (∀ c : Channel, s.live.channels[c] =
    ⟨if c.val < 20 then 1#24 <<< c.val else 0, 16, 1, 1023, 16, 40, 20, 0, 2, 2, 0, false⟩) ∧
  s.live.globals = ⟨8, 64, 16, 1, 20, 10, 48, 0b11111, 2, 4, 20, 10, 0, 480, 560⟩ ∧
  s.live.scan.count = 0 ∧
  (∀ g : GroupId, s.live.groups[g].kind = 0 ∧ s.live.groups[g].count = 0 ∧ s.live.groups[g].moveThreshold = 1) ∧
  s.store.staging = s.store.live ∧ s.store.snapshot = none ∧
  (∀ i : LineId, s.lines[i] = ⟨.off, false, 0, 0, 0, false, false, 0, none, 0, false⟩) ∧
  s.port.pointer = 0 ∧ s.port.page = 0 ∧ s.port.latch = none ∧ s.port.writeIgnored = false ∧
  s.port.transaction = none ∧
  (∀ a : Fin 32, s.liveByte (BitVec.ofNat 8 a.val) =
    if a.val = 0 then 0xD2 else if a.val = 1 then 0x11 else if a.val = 0x0A then 0x7F else if a.val = 0x0B then 1 else 0)

/-- The invariants of the part hold after reset. -/
def Obligations.InvariantsAtReset : Prop :=
  let s := State.reset
  s.queue.Sound ∧ s.OffUnlisted ∧ s.NearFits ∧ s.store.Valid ∧ s.Controlled ∧ s.Measuring ∧ s.HopsFit ∧
  s.LinesRest ∧ s.GroupsFit ∧ s.ModeQuiet ∧ s.BaselinesFit

/-! ## Commands -/

/-- START in STOPPED with a non-empty list: ACTIVE, the inactivity count 0, the first round in flight with the round
timer one round period ahead and its first channel's measurement requested; MODE, then CMD_DONE; OVERRUN, the round
counter and the key records as they were (R22, R28). -/
def Obligations.StartBeginsRound : Prop :=
  ∀ (s : State) (c : Channel) (rest : List Channel),
    s.Idle → s.scan.mode = .stopped → s.store.snapshot = none → s.live.scanList = c :: rest →
    ∃ t, exec .start s = .next t ∧
      t.scan = { s.scan with
        mode := .active, inactivity := 0, round := some ⟨.active, c :: rest, []⟩,
        timer := some s.live.globals.roundPeriod.toNat, due := false } ∧
      t.engine = { s.engine with current := some (s.live.measurementOf .scan c s.live.channels[c].trim) } ∧
      t.queue = s.queue.offerAll [⟨.mode, 1, 0, 0xFF⟩, ⟨.cmdDone, 0x01, 0x02, 0⟩] ∧
      t.command = s.command.reporting 0x01 .ok 0 ∧ t.port = s.port.after 0x06 ∧
      Keeps [.scan, .engine, .queue, .command, .port] s t

/-- A request that fails a check, RECAL without a target and ABORT in IDLE end at once: the report and CMD_DONE, and
nothing else (R72, R124, R129). -/
def Obligations.RequestsThatEndAtOnce : Prop :=
  ∀ (s : State) (i : Instr) (code : Byte) (result : ResultCode), s.Idle → EndsAtOnce s i code result →
    ∃ t, exec i s = .next t ∧
      t.command = s.command.reporting code result 0 ∧
      t.queue = s.queue.offer ⟨.cmdDone, code, result.code, 0⟩ ∧ t.port = s.port.after 0x06 ∧
      Keeps [.command, .queue, .port] s t

/-- Bytes that the command unit does not take. While BUSY, a request other than FLUSH, ABORT and RESET sets CMD_REJECTED
and does nothing else (R123). While a RESET is pending, every byte written to CMD is discarded: R131 says so of the further
bytes of the transaction that carried it. That a row which begins a transaction of its own before the reset takes effect is
discarded too is the model's choice (log 13). -/
def Obligations.RequestsNotTaken : Prop :=
  (∀ (s : State) (i : Instr), s.Takes → s.command.inProgress ≠ none → RefusedWhileBusy i →
    ∃ t, exec i s = .next t ∧ t.command = { s.command with rejected := true } ∧ t.port = s.port.after 0x06 ∧
      Keeps [.command, .port] s t) ∧
  (∀ (s : State) (i : Instr) (code : Byte), s.AnswersAt 0x06 → s.command.pendingReset ≠ none →
    (∀ v, i = .registerWrite v → s.port.transaction = some (.answered .write)) → commandCodeOf i s.port.pointer = some code →
    ∃ t, exec i s = .next t ∧ t.port = s.port.after 0x06 ∧ Keeps [.port] s t)

/-- STOP in ACTIVE or DOZE (R29, R30, R58, R96): the round and its measurement abandoned, the timer stopped, every
listed key released, the groups after them, then MODE and CMD_DONE. An emptied accumulator is log 8. -/
def Obligations.StopReleasesAndStops : Prop :=
  ∀ s : State, s.Idle → (s.scan.mode = .active ∨ s.scan.mode = .doze) →
    ∃ t, exec .stop s = .next t ∧
      t.scan = { s.scan with mode := .stopped, round := none, timer := none, due := false } ∧
      t.engine = { s.engine with current := none } ∧
      (∀ c : Channel, t.keys[c] =
        if s.live.listed c = false then s.keys[c]
        else if s.keys[c].state = .cal then { s.keys[c] with acc := Accumulator.empty }
        else if s.keys[c].state.handThere = true then s.keys[c].atIdle else s.keys[c]) ∧
      GroupsFollow s t ∧ LinesFollow s t ∧
      t.queue = s.queue.offerAll
        (s.live.scanList.flatMap (fun c =>
            if s.keys[c].state.handThere = true then forcedRecords (s.live.sliderMember c) 0x03 c s.keys[c] else [])
          ++ s.groupLeftRecords t.keys 0x03 ++ [⟨.mode, 0, 0, 0xFF⟩, ⟨.cmdDone, 0x02, 0x02, 0⟩]) ∧
      t.command = s.command.reporting 0x02 .ok 0 ∧ t.port = s.port.after 0x06 ∧
      Keeps [.scan, .engine, .keys, .groups, .lines, .queue, .command, .port] s t

/-- COMMIT outside TRIM, which ends at once or goes pending. A staging copy that fails validation: INVALID_CONFIG with
the detail, and nothing else (R126, R140). A valid one in ACTIVE or DOZE: the snapshot is pending and the unit BUSY
(R126, R139). -/
def Obligations.CommitChecksStaging : Prop :=
  ∀ s : State, s.Idle → s.scan.mode ≠ .trim →
    (∀ detail : Nat, validationFailure s.store.staging = some detail →
      ∃ t, exec .commit s = .next t ∧
        t.command = s.command.reporting 0x03 .invalidConfig (BitVec.ofNat 8 detail) ∧
        t.queue = s.queue.offer ⟨.cmdDone, 0x03, 0x06, BitVec.ofNat 8 detail⟩ ∧ t.port = s.port.after 0x06 ∧
        Keeps [.command, .queue, .port] s t) ∧
    ((s.scan.mode = .active ∨ s.scan.mode = .doze) → s.store.staging.valid = true →
      ∃ t, exec .commit s = .next t ∧ t.store = { s.store with snapshot := some s.store.staging } ∧
        t.command = { s.command.reporting 0x03 .pending 0 with
          inProgress := some ⟨.commit, s.command.arg0, s.command.arg1⟩ } ∧
        t.port = s.port.after 0x06 ∧ Keeps [.store, .command, .port] s t)

/-- COMMIT in STOPPED of a valid staging copy installs it at once (R13, R126, R141 to R147): the live copy replaced,
hop indices brought into the new set, each key by its case, the groups after the keys; the records of the keys, the
new list first and then the removed channels in number order, those of the groups, then CMD_DONE. The premises
NearFits and OffUnlisted are invariants, stated below, and so is the validity of the live copy, under which the cases
are those of R143's table and the groups follow R145. What makes two group definitions differ is log 9; an emptied
accumulator is log 8. -/
def Obligations.CommitInStoppedInstalls : Prop :=
  ∀ s : State, s.Idle → s.scan.mode = .stopped → s.store.staging.valid = true → s.NearFits → s.OffUnlisted →
    let new := s.store.staging
    ∃ t, exec .commit s = .next t ∧ t.store = ⟨new, new, none⟩ ∧ t.engine.current = s.engine.current ∧
      (∀ c : Channel, t.engine.hop[c] =
        if inHopSet new.globals.hopSet s.engine.hop[c] = true then s.engine.hop[c]
        else lowestHop new.globals.hopSet) ∧
      (∀ c : Channel, t.keys[c] =
        match installCase s.live new c with
        | .removed => s.keys[c].atOff
        | .added => s.keys[c].atCal
        | .remeasured => s.keys[c].atCal
        | .regrouped =>
          if s.keys[c].state = .pressed ∨ s.keys[c].state = .suppressed ∨ s.keys[c].state = .detect then
            s.keys[c].atIdle
          else { s.keys[c] with debounce := 0, release := 0 }
        | .redetected => { s.keys[c] with debounce := 0, release := 0 }
        | .untouched => s.keys[c]) ∧
      (s.live.valid = true → (∀ c : Channel, InstallRow s.live new c s.keys[c] t.keys[c]) ∧
        ∀ g : GroupId, InstalledGroup s.live.groups[g] new.groups[g] t.keys s.groups[g] t.groups[g]) ∧
      (∀ g : GroupId, t.groups[g] =
        if definitionChanged s.live.groups[g] new.groups[g] = true then GroupRun.cleared
        else if s.groups[g].touched = true ∧ (∀ c ∈ new.groups[g].memberList, t.keys[c].state ≠ .pressed) then
          GroupRun.cleared
        else s.groups[g]) ∧
      LinesFollow s t ∧
      t.queue = s.queue.offerAll
        ((new.scanList ++ allChannels.filter fun c => s.live.listed c && !new.listed c).flatMap (fun c =>
            if t.keys[c].state ≠ s.keys[c].state then
              forcedRecords (s.live.sliderMember c) 0x05 c s.keys[c] else [])
          ++ allGroups.flatMap (fun g =>
            if s.live.groups[g].hasPosition = true ∧ s.groups[g].touched = true ∧ t.groups[g].touched = false then
              [⟨.groupRelease, idByte g, shownPosition s.groups[g].position, 0x05⟩] else [])
          ++ [⟨.cmdDone, 0x03, 0x02, 0⟩]) ∧
      t.command = s.command.reporting 0x03 .ok 0 ∧ t.port = s.port.after 0x06 ∧
      Keeps [.store, .engine, .keys, .groups, .lines, .queue, .command, .port] s t

/-- RECAL with targets in STOPPED or ACTIVE (R73 to R75, R96): the targets in CAL, the groups after them; in STOPPED the
command is done, in ACTIVE it waits for the targets. That an emptied accumulator's smallest and largest sample are 0 is
the model's choice (log 8). -/
def Obligations.RecalSendsTargetsToCal : Prop :=
  ∀ (s : State) (targets : List Channel), s.Idle → (s.scan.mode = .stopped ∨ s.scan.mode = .active) →
    ((s.command.arg0 = 0xFF ∧ targets = s.live.scanList) ∨
      (∃ c : Channel, s.command.arg0 = idByte c ∧ s.live.listed c = true ∧ targets = [c])) → targets ≠ [] →
    ∃ t, exec .recal s = .next t ∧
      (∀ c : Channel, t.keys[c] = if c ∈ targets then s.keys[c].atCal else s.keys[c]) ∧
      GroupsFollow s t ∧ LinesFollow s t ∧
      t.queue = s.queue.offerAll
        (targets.flatMap (fun c => forcedRecords (s.live.sliderMember c) 0x06 c s.keys[c])
          ++ s.groupLeftRecords t.keys 0x00
          ++ if s.scan.mode = .stopped then [⟨.cmdDone, 0x04, 0x02, 0⟩] else []) ∧
      t.command =
        (if s.scan.mode = .stopped then s.command.reporting 0x04 .ok 0
        else { s.command.reporting 0x04 .pending 0 with
          inProgress := some ⟨.recal targets 0, s.command.arg0, s.command.arg1⟩ }) ∧
      t.port = s.port.after 0x06 ∧ Keeps [.keys, .groups, .lines, .queue, .command, .port] s t

/-- RECAL with targets in DOZE, every listed key or one (R32, R73, R76): the targets in CAL, the groups after them, then
ACTIVE with its MODE record and the inactivity count 0; a DOZE round in flight runs on with the timer stopped, else the
first ACTIVE round starts at once. An emptied accumulator is log 8. -/
def Obligations.RecalWakesFromDoze : Prop :=
  ∀ (s : State) (targets : List Channel) (c : Channel) (rest : List Channel), s.Idle → s.scan.mode = .doze →
    s.store.snapshot = none →
    ((s.command.arg0 = 0xFF ∧ targets = s.live.scanList) ∨
      (∃ d : Channel, s.command.arg0 = idByte d ∧ s.live.listed d = true ∧ targets = [d])) →
    s.live.scanList = c :: rest →
    ∃ t, exec .recal s = .next t ∧
      (∀ d : Channel, t.keys[d] = if d ∈ targets then s.keys[d].atCal else s.keys[d]) ∧
      GroupsFollow s t ∧ LinesFollow s t ∧
      t.queue = s.queue.offerAll
        (targets.flatMap (fun d => forcedRecords (s.live.sliderMember d) 0x06 d s.keys[d])
          ++ s.groupLeftRecords t.keys 0x00 ++ [⟨.mode, 1, 0x04, 0xFF⟩]) ∧
      t.command = { s.command.reporting 0x04 .pending 0 with
        inProgress := some ⟨.recal targets 0, s.command.arg0, s.command.arg1⟩ } ∧
      (match s.scan.round with
        | some _ =>
          t.scan = { s.scan with mode := .active, inactivity := 0, timer := none, due := false } ∧ t.engine = s.engine
        | none =>
          t.scan = { s.scan with
            mode := .active, inactivity := 0, round := some ⟨.active, c :: rest, []⟩,
            timer := some s.live.globals.roundPeriod.toNat, due := false } ∧
          t.engine = { s.engine with current := some (s.live.measurementOf .scan c s.live.channels[c].trim) }) ∧
      t.port = s.port.after 0x06 ∧ Keeps [.keys, .groups, .lines, .queue, .command, .scan, .engine, .port] s t

/-- TRIM in STOPPED with a non-empty list (R128, R152, R153): the mode TRIM and BUSY, and the first channel's
measurement requested for pass 1 at the trial trim 32. -/
def Obligations.TrimBeginsSearch : Prop :=
  ∀ (s : State) (c : Channel) (rest : List Channel),
    s.Idle → s.scan.mode = .stopped → s.live.scanList = c :: rest →
    ∃ t, exec .trim s = .next t ∧ t.scan = { s.scan with mode := .trim } ∧
      (∃ run, t.trimRun = some run ∧ run.channels = c :: rest ∧ run.lo = s.live.globals.targetLo.toNat ∧
        run.hi = s.live.globals.targetHi.toNat ∧ run.pass = 1 ∧ run.place = 0 ∧
        ∀ d : Channel, run.trial[d] = 0 ∧ run.found[d] = .none) ∧
      t.engine = { s.engine with current := some (s.live.measurementOf .trim c 32) } ∧
      t.queue = s.queue.offer ⟨.mode, 3, 0, 0xFF⟩ ∧
      t.command = { s.command.reporting 0x05 .pending 0 with
        inProgress := some ⟨.trim, s.command.arg0, s.command.arg1⟩ } ∧
      t.port = s.port.after 0x06 ∧ Keeps [.scan, .trimRun, .engine, .queue, .command, .port] s t

/-- DOZE in ACTIVE with no non-wake listed key in CAL (R31, R59, R163): the round abandoned, the timer one doze period
ahead, the non-wake keys released, the groups after them, then MODE and CMD_DONE. -/
def Obligations.DozeReleasesNonWakeKeys : Prop :=
  ∀ s : State, s.Idle → s.scan.mode = .active →
    (∀ c : Channel, s.live.listed c = true → s.live.channels[c].wake = false → s.keys[c].state ≠ .cal) →
    ∃ t, exec .doze s = .next t ∧
      t.scan = { s.scan with
        mode := .doze, round := none, timer := some (10 * s.live.globals.dozePeriod.toNat), due := false } ∧
      t.engine = { s.engine with current := none } ∧
      (∀ c : Channel, t.keys[c] =
        if s.live.listed c = true ∧ s.live.channels[c].wake = false ∧ s.keys[c].state.handThere = true then
          s.keys[c].atIdle
        else s.keys[c]) ∧
      GroupsFollow s t ∧ LinesFollow s t ∧
      t.queue = s.queue.offerAll
        (s.live.scanList.flatMap (fun c =>
            if s.live.channels[c].wake = false ∧ s.keys[c].state.handThere = true then
              forcedRecords (s.live.sliderMember c) 0x04 c s.keys[c] else [])
          ++ s.groupLeftRecords t.keys 0x04 ++ [⟨.mode, 2, 0, 0xFF⟩, ⟨.cmdDone, 0x06, 0x02, 0⟩]) ∧
      t.command = s.command.reporting 0x06 .ok 0 ∧ t.port = s.port.after 0x06 ∧
      Keeps [.scan, .engine, .keys, .groups, .lines, .queue, .command, .port] s t

/-- WAKE in DOZE (R22, R26, R32, R127): ACTIVE with its MODE record and the inactivity count 0, CMD_DONE; a DOZE round in
flight runs on with the timer stopped, else the first ACTIVE round starts at once. Over an empty list that round
completes in the same event: it is counted and evaluated with no result, and counts as quiet where every key is. -/
def Obligations.WakeReturnsToActive : Prop :=
  ∀ s : State, s.Idle → s.scan.mode = .doze → s.store.snapshot = none →
    let queue := s.queue.offerAll [⟨.mode, 1, 0, 0xFF⟩, ⟨.cmdDone, 0x07, 0x02, 0⟩]
    let period := s.live.globals.roundPeriod.toNat
    ∃ t, exec .wake s = .next t ∧ t.command = s.command.reporting 0x07 .ok 0 ∧ LinesFollow s t ∧
      t.port = s.port.after 0x06 ∧
      (s.scan.round ≠ none →
        t.scan = { s.scan with mode := .active, inactivity := 0, timer := none, due := false } ∧ t.queue = queue ∧
        Keeps [.scan, .lines, .queue, .command, .port] s t) ∧
      (∀ (c : Channel) (rest : List Channel), s.scan.round = none → s.live.scanList = c :: rest →
        t.scan = { s.scan with
          mode := .active, inactivity := 0, round := some ⟨.active, c :: rest, []⟩, timer := some period,
          due := false } ∧
        t.engine = { s.engine with current := some (s.live.measurementOf .scan c s.live.channels[c].trim) } ∧
        t.queue = queue ∧ Keeps [.scan, .engine, .lines, .queue, .command, .port] s t) ∧
      (s.scan.round = none → s.live.scanList = [] →
        let e := (s.withQueue queue).evaluate []
        t.keys = e.keys ∧ t.groups = e.groups ∧ t.queue = e.queue ∧
        t.scan = { s.scan with
          mode := .active, inactivity := quietCount e.keys 0, counter := s.scan.counter + 1, timer := some period,
          due := false } ∧
        Keeps [.keys, .groups, .scan, .lines, .queue, .command, .port] s t)

/-- FLUSH, in IDLE or BUSY (R113, R114): every record removed, a hold VOID, the lost count 0, then CMD_DONE with the
number removed; the report changes only in IDLE. -/
def Obligations.FlushEmptiesQueue : Prop :=
  ∀ s : State, s.Takes →
    let removed : Byte := BitVec.ofNat 8 s.queue.records.length
    ∃ t, exec .flush s = .next t ∧
      t.queue = EventQueue.offer
        { s.queue with records := [], hold := if s.queue.hold = .free then .free else .void, lost := 0 }
        ⟨.cmdDone, 0x08, 0x02, removed⟩ ∧
      t.command = (if s.command.inProgress = none then s.command.reporting 0x08 .ok removed else s.command) ∧
      t.port = s.port.after 0x06 ∧ Keeps [.queue, .command, .port] s t

/-- ABORT of a command in progress (R77, R129, R148, R158): the pending snapshot discarded; the waiting set dropped;
or the trim cancelled with MODE(STOPPED, COMMAND). CMD_DONE reports the command that ended. -/
def Obligations.AbortEndsCommand : Prop :=
  ∀ (s : State) (work : Work) (a b : Byte), s.Takes → s.command.inProgress = some ⟨work, a, b⟩ →
    ∃ t, exec .abort s = .next t ∧ t.port = s.port.after 0x06 ∧
      match work with
      | .commit =>
        t.store = { s.store with snapshot := none } ∧
        t.command = { s.command.reporting 0x03 .aborted 0 with inProgress := none } ∧
        t.queue = s.queue.offer ⟨.cmdDone, 0x03, 0x07, 0⟩ ∧ Keeps [.store, .command, .queue, .port] s t
      | .recal waiting _ =>
        t.command = { s.command.reporting 0x04 .aborted (BitVec.ofNat 8 waiting.length) with inProgress := none } ∧
        t.queue = s.queue.offer ⟨.cmdDone, 0x04, 0x07, BitVec.ofNat 8 waiting.length⟩ ∧
        Keeps [.command, .queue, .port] s t
      | .trim =>
        t.trimRun = none ∧ t.engine = { s.engine with current := none } ∧
        t.scan = { s.scan with mode := .stopped } ∧
        t.command = { s.command.reporting 0x05 .aborted 0 with inProgress := none } ∧
        t.queue = s.queue.offerAll [⟨.mode, 0, 0, 0xFF⟩, ⟨.cmdDone, 0x05, 0x07, 0⟩] ∧ LinesFollow s t ∧
        Keeps [.trimRun, .engine, .scan, .command, .queue, .lines, .port] s t

/-! ## Resets -/

/-- RESET with the argument 0 or 1 becomes pending and changes nothing else; with another argument it ends with
BAD_ARG, in the report only when the unit is IDLE (R130, R131). -/
def Obligations.ResetBecomesPending : Prop :=
  ∀ s : State, s.Takes →
    (∀ kind : ResetKind, s.command.arg0 = (if kind = .warm then 0 else 1) →
      ∃ t, exec .reset s = .next t ∧ t.command = { s.command with pendingReset := some kind } ∧
        t.port = s.port.after 0x06 ∧ Keeps [.command, .port] s t) ∧
    (2 ≤ s.command.arg0.toNat →
      ∃ t, exec .reset s = .next t ∧
        t.command = (if s.command.inProgress = none then s.command.reporting 0x0A .badArg 0 else s.command) ∧
        t.queue = s.queue.offer ⟨.cmdDone, 0x0A, 0x05, 0⟩ ∧ t.port = s.port.after 0x06 ∧
        Keeps [.command, .queue, .port] s t)

/-- The reset commands take effect. Warm (R16, R36, R62, R100, R119, R132, R159, R176, R185): the configuration, the last
counts, the baselines, the trim statuses, the filter, the ATTN mode and the line settings are kept. Cold (R133): every
block at its power-on values, and the bus address kept. The model's choices: without the RESET pending, the end of a
transaction changes nothing (log 2); an emptied accumulator's smallest and largest are 0 (log 8); the sense of the frame
in progress (log 11); the write transaction that carried the RESET is closed, and none is open (log 13). -/
def Obligations.ResetCommandsTakeEffect : Prop :=
  (∀ s : State, s.Runs →
      (s.command.pendingReset ≠ some .warm → exec .warmReset s = .next s) ∧
      (s.command.pendingReset = some .warm →
        ∃ t, exec .warmReset s = .next t ∧ t.store = { s.store with snapshot := none } ∧
          t.engine.current = none ∧ (∀ c : Channel, t.engine.hop[c] = lowestHop s.live.globals.hopSet) ∧
          t.scan = ⟨.stopped, none, none, false, 0, 0, false⟩ ∧
          (∀ c : Channel, t.keys[c] =
            ⟨if s.live.listed c = true then .cal else .off, s.keys[c].baseline, s.keys[c].lastCount, 0, 0, 0, 0, 0,
              .none, false, 0, 0, ⟨0, 0, 0, 0, 1⟩, s.keys[c].trimStatus⟩) ∧
          (∀ g : GroupId, t.groups[g] = ⟨false, none, none⟩) ∧
          t.queue = ⟨[], .free, 0, s.queue.filter, s.queue.attnMode, false⟩ ∧
          t.command = ⟨0, 0, ⟨0, .none, 0⟩, none, false, none⟩ ∧ t.trimRun = none ∧
          (∀ i : LineId, t.lines[i] =
            { s.lines[i] with level := 0, timer := none, frameDuty := 0 : IndicatorLine }.meet
              (t.targetLevel s.lines[i])) ∧
          t.port = { s.port with latch := none, transaction := none } ∧
          Keeps [.store, .engine, .scan, .keys, .groups, .queue, .command, .trimRun, .lines, .port] s t)) ∧
  (∀ s : State, s.Runs →
      (s.command.pendingReset ≠ some .cold → exec .coldReset s = .next s) ∧
      (s.command.pendingReset = some .cold →
        ∃ t, exec .coldReset s = .next t ∧ t.store = State.reset.store ∧ t.engine = State.reset.engine ∧
          t.scan = State.reset.scan ∧ t.keys = State.reset.keys ∧ t.groups = State.reset.groups ∧
          t.queue = State.reset.queue ∧ t.command = State.reset.command ∧ t.trimRun = none ∧
          t.lines = State.reset.lines ∧ t.port.busAddress = s.port.busAddress ∧ t.port.pointer = 0 ∧
          t.port.page = 0 ∧ t.port.latch = none ∧ t.port.writeIgnored = false ∧ t.port.transaction = none ∧
          Keeps [.store, .engine, .scan, .keys, .groups, .queue, .command, .trimRun, .lines, .port] s t))

/-- RESETn and the transactions on the bus (R178, R185). RESETn low: every block at its power-on values, and the
transaction in progress abandoned; the release: the same, with the bus address sampled from ADDR and the start-up time
begun; at its end the port answers, and nothing else changes. While RESETn is low, nothing inside the part happens, and
a transaction that begins is left unanswered. A transaction that begins in the start-up time is left, or its bytes have
the effect they have when the part answers, as the free value of its draw says (log 3); a further byte of it has that
effect without a draw. Every transaction that begins later is answered. A further byte of a write left or abandoned is
not taken, in any power condition; a read left or abandoned has no further byte, and the next read begins a transaction.
Which commands begin a transaction is log 13. With the start-up time over, its end is no event (log 2). -/
def Obligations.ResetPinIsPowerOn : Prop :=
  let powerOn (t : State) : Prop :=
    t.store = State.reset.store ∧ t.engine = State.reset.engine ∧ t.scan = State.reset.scan ∧
    t.keys = State.reset.keys ∧ t.groups = State.reset.groups ∧ t.queue = State.reset.queue ∧
    t.command = State.reset.command ∧ t.trimRun = none ∧ t.lines = State.reset.lines ∧ t.port.pointer = 0 ∧
    t.port.page = 0 ∧ t.port.latch = none ∧ t.port.writeIgnored = false
  let abandons (s t : State) : Prop :=
    (s.port.transaction = some (.answered .write) → t.port.transaction = some (.left s.port.pointer)) ∧
    (s.port.transaction = some (.answered .read) → t.port.transaction = none) ∧
    ((∀ d, s.port.transaction ≠ some (.answered d)) → t.port.transaction = s.port.transaction)
  let leaving (s : State) (d : Direction) (next : Byte) : State :=
    s.withPort { s.port with transaction := if d = .write then some (.left next) else none }
  (∀ s : State, ∃ t, exec .resetnAssert s = .next t ∧ t.power = .heldInReset ∧ powerOn t ∧ abandons s t ∧
    t.port.busAddress = s.port.busAddress) ∧
  (∀ (s : State) (addrHigh : Bool), ∃ t, exec (.resetnRelease addrHigh) s = .next t ∧ t.power = .startUp ∧
    powerOn t ∧ abandons s t ∧ t.port.busAddress = if addrHigh then 0x2D else 0x2C) ∧
  (∀ s : State, s.power = .startUp →
    ∃ t, exec .startUpTimeEnd s = .next t ∧ t.power = .answering ∧ Keeps [.power] s t) ∧
  (∀ s : State, s.power = .answering → exec .startUpTimeEnd s = .next s) ∧
  (∀ (s : State) (i : Instr), s.power = .heldInReset → busRole i s.port = .offBus → i ≠ .resetnAssert →
    (∀ b, i ≠ .resetnRelease b) → exec i s = .next s) ∧
  (∀ (s : State) (i : Instr) (d : Direction) (next : Byte), busRole i s.port = .begins d next →
    let drawn := s.withFreeDraws (s.freeDraws + 1)
    (s.power = .heldInReset → exec i s = .next (leaving s d next)) ∧
    (s.power = .startUp →
      ∃ u, exec i (drawn.withPower .answering) = .next u ∧
        exec i s = .next
          (if Config.startUpAnswers s.freeDraws = true then u.withPower .startUp else leaving drawn d next)) ∧
    (s.power = .answering → ∃ t, exec i s = .next t ∧ t.port.transaction = some (.answered d))) ∧
  (∀ (s : State) (i : Instr) (d : Direction), busRole i s.port = .further d →
    (∀ next, s.port.transaction = some (.left next) → exec i s = .next (leaving s d (next + 1))) ∧
    (s.port.transaction = some (.answered d) → s.power = .startUp →
      ∃ u, exec i (s.withPower .answering) = .next u ∧ exec i s = .next (u.withPower .startUp)))

/-! ## Host writes -/

/-- Sticky flags, event filter, page selector, register pointer and ATTN mode (R104, R115, R125, R179, R181, R182): each
byte's effect, whatever its value. The ATTN mode takes 0, 1 and 2, a change ends a pulse and the line's level for the
queue as it stands follows; 3 to 255 sets WRITE_IGNORED and does nothing else. -/
def Obligations.PlainRegisterWrites : Prop :=
  ∀ (s : State) (v : Byte),
    (s.AnswersAt 0x03 → ∃ t, exec (.stickyFlagsWrite v) s = .next t ∧
      t.scan = { s.scan with overrun := s.scan.overrun && !v.getLsbD 0 } ∧
      t.command = { s.command with rejected := s.command.rejected && !v.getLsbD 1 } ∧
      t.port = { s.port.after 0x03 with writeIgnored := s.port.writeIgnored && !v.getLsbD 2 } ∧
      Keeps [.scan, .command, .port] s t) ∧
    (s.AnswersAt 0x0A → ∃ t, exec (.eventFilterWrite v) s = .next t ∧ t.queue = { s.queue with filter := v.setWidth 7 } ∧
      t.port = s.port.after 0x0A ∧ Keeps [.queue, .port] s t) ∧
    (s.AnswersAt 0x1F → ∃ t, exec (.pageSelectorWrite v) s = .next t ∧ t.port = { s.port.after 0x1F with page := v } ∧
      Keeps [.port] s t) ∧
    (s.power = .answering → ∃ t, exec (.registerPointer v) s = .next t ∧
      t.port = { s.port with pointer := v, transaction := some (.answered .write) } ∧
      Keeps [.port] s t) ∧
    (s.AnswersAt 0x0B → ∃ t, exec (.attnModeWrite v) s = .next t ∧
      (3 ≤ v.toNat → t.port = { s.port.after 0x0B with writeIgnored := true } ∧ Keeps [.port] s t) ∧
      (∀ m : AttnMode, v = m.code →
        t.queue = (if m = s.queue.attnMode then s.queue else { s.queue with attnMode := m, pulse := false }) ∧
        t.port = s.port.after 0x0B ∧ Keeps [.queue, .port] s t ∧
        (m ≠ s.queue.attnMode → t.queue.attnActive = (m == .level && !s.queue.records.isEmpty))))

/-- The target level of a line (R171), by the first row of its table that applies: 0 with the doze-dark flag set in DOZE,
else by the source. INDICATOR_WRITE on page 6 (R170, R172, R173, R182): a value in the item's range is stored and the line
meets its new target; the current level and a value out of range set WRITE_IGNORED and change nothing else. -/
def Obligations.IndicatorWrites : Prop :=
  (∀ (s : State) (l : IndicatorLine),
    (l.dozeDark = true → s.scan.mode = .doze → s.targetLevel l = 0) ∧
    (l.dozeDark = false ∨ s.scan.mode ≠ .doze →
      (l.source = .off → s.targetLevel l = 0) ∧
      (l.source = .host → s.targetLevel l = if l.hostBit = true then l.onLevel else l.offLevel) ∧
      (∀ c : Channel, l.source = .key c →
        s.targetLevel l = if s.keys[c].state = .pressed then l.onLevel else l.offLevel) ∧
      (∀ g : GroupId, l.source = .group g →
        s.targetLevel l = if s.groups[g].touched = true then l.onLevel else l.offLevel))) ∧
  ∀ (s : State) (line : LineId) (item : IndicatorItem) (v : Byte),
    let address : Byte := BitVec.ofNat 8 (0x20 + 8 * line.val + itemOffset item)
    let l := s.lines[line]
    let port := s.port.after address
    let stored : Option IndicatorLine :=
      match item with
      | .source =>
        if v = 0 then some { l with source := .off }
        else if v = 1 then some { l with source := .host }
        else if h : 0x40 ≤ v.toNat ∧ v.toNat ≤ 0x57 then
          some { l with source := .key ⟨v.toNat - 0x40, by omega⟩ }
        else if h : 0x80 ≤ v.toNat ∧ v.toNat ≤ 0x85 then
          some { l with source := .group ⟨v.toNat - 0x80, by omega⟩ }
        else none
      | .hostBit => if v.toNat ≤ 1 then some { l with hostBit := v == 1 } else none
      | .onLevel => if v.toNat ≤ 63 then some { l with onLevel := BitVec.ofNat 6 v.toNat } else none
      | .offLevel => if v.toNat ≤ 63 then some { l with offLevel := BitVec.ofNat 6 v.toNat } else none
      | .flags => if v.toNat ≤ 3 then some { l with dozeDark := v.getLsbD 0, invert := v.getLsbD 1 } else none
      | .currentLevel => none
    s.AnswersAt address → s.port.page = 6 → ∃ t, exec (.indicatorWrite line item v) s = .next t ∧
      match stored with
      | none =>
        t.port = { port with writeIgnored := true } ∧ Keeps [.port] s t
      | some l' =>
        (∀ j : LineId, j ≠ line → t.lines[j] = s.lines[j]) ∧
        t.lines[line] =
          (if s.targetLevel l = s.targetLevel l' then l' else l'.meet (s.targetLevel l')) ∧
        t.port = port ∧ Keeps [.lines, .port] s t

/-- FADE_INTERVAL_WRITE on page 6 (R174): a new interval 0 jumps to the target; 1 to 15 starts the timer afresh while
the level differs from the target; the interval in force changes nothing; above 15 the write is ignored. -/
def Obligations.FadeIntervalWrites : Prop :=
  ∀ (s : State) (line : LineId) (v : Byte),
    let address : Byte := BitVec.ofNat 8 (0x24 + 8 * line.val)
    let l := s.lines[line]
    let target := s.targetLevel l
    let port := s.port.after address
    s.AnswersAt address → s.port.page = 6 → ∃ t, exec (.fadeIntervalWrite line v) s = .next t ∧
      (16 ≤ v.toNat → t.port = { port with writeIgnored := true } ∧ Keeps [.port] s t) ∧
      (v.toNat ≤ 15 →
        (∀ j : LineId, j ≠ line → t.lines[j] = s.lines[j]) ∧
        t.lines[line] =
          (if v.toNat = l.fade.toNat then l
          else if v.toNat = 0 then { l with fade := 0, level := target, timer := none }
          else if l.level = target then { l with fade := BitVec.ofNat 4 v.toNat, timer := none }
          else { l with fade := BitVec.ofNat 4 v.toNat, timer := some (8 * v.toNat) }) ∧
        t.port = port ∧ Keeps [.lines, .port] s t)

/-- REGISTER_WRITE on a staging page (R135, R179, R182): a further byte of a write transaction, at an assigned address, is
stored and reads back as the page keeps it, every other address of every page reads as before, and nothing else
changes. -/
def Obligations.StagingWritesReadBack : Prop :=
  ∀ (s : State) (v : Byte), s.Writes → s.port.page.toNat ≤ 3 → 0x20 ≤ s.port.pointer.toNat →
    ignoresEveryWrite s.port.page s.port.pointer = false →
    ∃ t, exec (.registerWrite v) s = .next t ∧
      t.liveByte s.port.pointer = storedByte s.port.page s.port.pointer v ∧
      (∀ page a : Fin 256, (page.val ≠ s.port.page.toNat ∨ a.val ≠ s.port.pointer.toNat) → 0x20 ≤ a.val →
        t.pageByte page.val a.val = s.pageByte page.val a.val) ∧
      t.store.live = s.store.live ∧ t.store.snapshot = s.store.snapshot ∧ t.port = s.port.after s.port.pointer ∧
      Keeps [.store, .port] s t

/-- REGISTER_WRITE of ARG0 and ARG1 stores the byte (R120); at a read-only or unassigned address it sets WRITE_IGNORED
and does nothing else (R182). Where no write transaction is open, it is no byte of the port's (R179, log 13). -/
def Obligations.ArgumentsStoredAndOthersIgnored : Prop :=
  ∀ (s : State) (v : Byte),
    (s.port.place .write = none → exec (.registerWrite v) s = .next s) ∧
    (s.Writes →
      ∃ t, exec (.registerWrite v) s = .next t ∧
        (s.port.pointer = 0x04 →
          t.command = { s.command with arg0 := v } ∧ t.port = s.port.after 0x04 ∧ Keeps [.command, .port] s t) ∧
        (s.port.pointer = 0x05 →
          t.command = { s.command with arg1 := v } ∧ t.port = s.port.after 0x05 ∧ Keeps [.command, .port] s t) ∧
        (ignoresEveryWrite s.port.page s.port.pointer = true →
          t.port = { s.port.after s.port.pointer with writeIgnored := true } ∧ Keeps [.port] s t))

/-- A row that names the address of a byte written acts as REGISTER_WRITE of that byte where the open write transaction
stands there, and HOLD and POP are the reads at 0x10 and 0x13 (R110, R111, R120, R179, log 2, log 13), in every power
condition. -/
def Obligations.RowsActAtTheirAddress : Prop :=
  (∀ (s : State) (i : Instr) (address v : Byte), writtenAt i = some (address, v) →
    s.port.transaction = some (.answered .write) → s.port.pointer = address → exec (.registerWrite v) s = exec i s) ∧
  (∀ s : State, s.port.pointer = 0x10 → exec .latchedFieldRead s = exec .hold s) ∧
  (∀ s : State, s.port.pointer = 0x13 → exec .latchedFieldRead s = exec .pop s)

/-! ## Host reads -/

/-- The identity bytes read 0xD2 and 0x11 in every state that answers, and writes to them are ignored (R186). -/
def Obligations.IdentityBytesFixed : Prop :=
  ∀ s : State, (s.port.pointer = 0x00 ∨ s.port.pointer = 0x01) →
    (s.AnswersReads → ∃ t, exec .latchedFieldRead s = .next t ∧
      t.port.sent = some (if s.port.pointer = 0x00 then 0xD2 else 0x11)) ∧
    (∀ v : Byte, s.Writes → ∃ t, exec (.registerWrite v) s = .next t ∧ t.port.writeIgnored = true ∧ Keeps [.port] s t)

/-- HOLD (R110): the head of a non-empty queue is held and its kind sent; an empty queue sends NONE and frees. POP
(R109, R111, R117): in HELD the held head's value B is sent and the head leaves; OVERFLOW fills a freed sixteenth place
while records were lost; in PULSE mode a pop that leaves records gives a pulse. In VOID 0 is sent and VOID ends; in
FREE the head's value B (or 0) is sent and nothing changes. -/
def Obligations.QueuePortHoldsAndPops : Prop :=
  ∀ s : State,
    (s.AnswersReads → ∃ t, exec .hold s = .next t ∧
      (match s.queue.records with
        | [] => t.queue = { s.queue with hold := .free } ∧ t.port = { s.port.afterRead 0x10 with sent := some 0x00 }
        | head :: _ =>
          t.queue = { s.queue with hold := .held } ∧
          t.port = { s.port.afterRead 0x10 with sent := some head.kind.code }) ∧
      Keeps [.queue, .port] s t) ∧
    (s.AnswersReads → ∃ t, exec .pop s = .next t ∧
      (match s.queue.hold, s.queue.records with
        | .held, head :: rest =>
          t.queue.records =
            (if rest.length = 15 ∧ 0 < s.queue.lost then
              rest ++ [⟨.overflow, 0, BitVec.ofNat 8 s.queue.lost, 0⟩] else rest) ∧
          t.queue.lost = (if rest.length = 15 then 0 else s.queue.lost) ∧ t.queue.hold = .free ∧
          t.queue.pulse = (s.queue.pulse || (decide (rest ≠ []) && s.queue.attnMode == .pulse)) ∧
          t.queue.filter = s.queue.filter ∧ t.queue.attnMode = s.queue.attnMode ∧
          t.port = { s.port.afterRead 0x13 with sent := some head.valueB }
        | .held, [] => t.port = { s.port.afterRead 0x13 with sent := some 0 }
        | .void, _ =>
          t.queue = { s.queue with hold := .free } ∧ t.port = { s.port.afterRead 0x13 with sent := some 0 }
        | .free, [] => t.queue = s.queue ∧ t.port = { s.port.afterRead 0x13 with sent := some 0 }
        | .free, head :: _ =>
          t.queue = s.queue ∧ t.port = { s.port.afterRead 0x13 with sent := some head.valueB }) ∧
      Keeps [.queue, .port] s t)

/-- LATCHED_FIELD_READ (R111, R180, R183). The read of the lowest byte of one of R183's fields sends it and latches the
whole field as it stands; a later read of another byte of the field, whatever has happened to the part meanwhile, sends
the byte the field had at the first read, as long as the latch holds. A higher byte of a field the latch does not hold
is sent as it stands, and the latch is kept. A read of 0x11 or 0x12 sends the index or value A of the head, or 0 in VOID
or of an empty queue; a read of any other address sends the byte as it stands; both keep the latch. The round counter is
one field on every page (log 10). -/
def Obligations.LatchedFieldsNeverTorn : Prop :=
  ∀ s : State, s.AnswersReads →
    let a := s.port.pointer.toNat
    let sends (byte : Byte) : Prop :=
      ∃ t, exec .latchedFieldRead s = .next t ∧
        t.port = { s.port.afterRead s.port.pointer with sent := some byte } ∧ Keeps [.port] s t
    (∀ f ∈ latchedFields s.port.page.toNat, a = f.1 →
      ∃ t, exec .latchedFieldRead s = .next t ∧
        t.port = { s.port.afterRead s.port.pointer with
          latch := t.port.latch, sent := some (s.liveByte s.port.pointer) } ∧
        t.port.latchHolds s.port.page f.1 ∧ Keeps [.port] s t ∧
        ∀ (u : State) (i : Nat), u.AnswersReads → u.port.latch = t.port.latch →
          (u.port.page = s.port.page ∨ f.1 = 0x0C) → 1 ≤ i → i < f.2 → u.port.pointer.toNat = f.1 + i →
          ∃ v, exec .latchedFieldRead u = .next v ∧
            v.port = { u.port.afterRead u.port.pointer with
              sent := some (s.liveByte (BitVec.ofNat 8 (f.1 + i))) } ∧ Keeps [.port] u v) ∧
    (∀ f ∈ latchedFields s.port.page.toNat, f.1 < a → a < f.1 + f.2 → ¬ s.port.latchHolds s.port.page f.1 →
      sends (s.liveByte s.port.pointer)) ∧
    (a = 0x11 ∨ a = 0x12 →
      sends
        (match s.queue.hold, s.queue.records with
          | .void, _ => 0
          | _, [] => 0
          | _, head :: _ => if a = 0x11 then head.index else head.valueA)) ∧
    (a < 0x10 ∨ 0x13 < a → (∀ f ∈ latchedFields s.port.page.toNat, ¬ (f.1 ≤ a ∧ a < f.1 + f.2)) →
      sends (s.liveByte s.port.pointer))

/-- What the addresses of the window send (R61, R106, R181, R184), each byte read with an empty latch: the common region
but for the queue port; staging on pages 0 to 3 and the live copy on pages 8 to 11, in one layout; the keys on pages 4
and 5 and the groups on page 5; the indicator lines on page 6; 0 elsewhere. -/
def Obligations.WindowShowsState : Prop :=
  ∀ s : State, s.AnswersReads →
    let reads (page address value : Nat) : Prop :=
      ∃ t, exec .latchedFieldRead (s.withPort { s.port with
          page := BitVec.ofNat 8 page, pointer := BitVec.ofNat 8 address, latch := none }) = .next t ∧
        t.port.sent = some (BitVec.ofNat 8 value)
    let rows (page base : Nat) (values : List (Nat × Nat)) : Prop := ∀ p ∈ values, reads page (base + p.1) p.2
    let zero (page first beyond : Nat) : Prop := ∀ a, first ≤ a → a < beyond → reads page a 0
    let byte {w : Nat} (v : BitVec w) (i : Nat) : Nat := v.toNat / 256 ^ i % 256
    let flag (b : Bool) : Nat := if b then 1 else 0
    let copy (first : Nat) (cfg : Configuration) : Prop :=
      let g := cfg.globals
      rows first 0x20
        [(0x00, g.calSamples.toNat), (0x01, byte g.calSpread 0), (0x02, byte g.calSpread 1),
          (0x03, g.driftInterval.toNat), (0x04, g.driftStep.toNat), (0x05, g.negLimit.toNat),
          (0x06, g.negRounds.toNat), (0x07, byte g.noiseLimit 0), (0x08, byte g.noiseLimit 1), (0x09, g.hopSet.toNat),
          (0x0A, g.hopRetries.toNat), (0x0B, g.faultRounds.toNat), (0x0C, g.roundPeriod.toNat),
          (0x0D, g.dozePeriod.toNat), (0x0E, g.dozeAfter.toNat), (0x0F, byte g.targetLo 0), (0x10, byte g.targetLo 1),
          (0x11, byte g.targetHi 0), (0x12, byte g.targetHi 1)] ∧
      zero first 0x33 0x40 ∧ reads first 0x40 cfg.scan.count.toNat ∧
      (∀ i : Fin 24, reads first (0x41 + i.val) cfg.scan.entries[i].toNat) ∧ zero first 0x59 0x100 ∧
      (∀ c : Channel,
        let ch := cfg.channels[c]
        rows (if c.val < 12 then first + 1 else first + 2) (0x20 + 16 * (c.val % 12))
          [(0, byte ch.electrodes 0), (1, byte ch.electrodes 1), (2, byte ch.electrodes 2), (3, ch.trim.toNat),
            (4, ch.burst.toNat), (5, byte ch.ceiling 0), (6, byte ch.ceiling 1), (7, byte ch.floor 0),
            (8, byte ch.floor 1), (9, ch.touch.toNat), (10, ch.release.toNat), (11, ch.prox.toNat),
            (12, ch.downDebounce.toNat), (13, ch.upDebounce.toNat), (14, ch.maxOn.toNat), (15, flag ch.wake)]) ∧
      zero (first + 1) 0xE0 0x100 ∧ zero (first + 2) 0xE0 0x100 ∧
      (∀ g : GroupId,
        let d := cfg.groups[g]
        let base := 0x20 + 16 * g.val
        rows (first + 3) base [(0, d.kind.toNat), (1, d.count.toNat), (10, d.moveThreshold.toNat)] ∧
        (∀ i : Fin 8, reads (first + 3) (base + 2 + i.val) d.members[i].toNat) ∧
        zero (first + 3) (base + 11) (base + 16)) ∧
      zero (first + 3) 0x80 0x100
    (∀ page, page < 256 →
      rows page 0
        [(0x00, 0xD2), (0x01, 0x11),
          (0x02,
            (match s.scan.mode with
              | .stopped => 0
              | .active => 1
              | .doze => 2
              | .trim => 3) + 4 * flag s.command.inProgress.isSome + (if s.queue.records = [] then 0 else 8) +
              (if ∃ c : Channel, s.keys[c].state = .fault then 16 else 0)),
          (0x03, flag s.scan.overrun + 2 * flag s.command.rejected + 4 * flag s.port.writeIgnored),
          (0x04, s.command.arg0.toNat), (0x05, s.command.arg1.toNat), (0x06, s.command.report.code.toNat),
          (0x07,
            match s.command.report.result with
            | .none => 0
            | .pending => 1
            | .ok => 2
            | .wrongMode => 3
            | .emptyList => 4
            | .badArg => 5
            | .invalidConfig => 6
            | .aborted => 7
            | .nothingPending => 8
            | .unknownCmd => 9),
          (0x08, s.command.report.detail.toNat), (0x09, s.queue.records.length), (0x0A, s.queue.filter.toNat),
          (0x0B,
            match s.queue.attnMode with
            | .off => 0
            | .level => 1
            | .pulse => 2),
          (0x0C, byte s.scan.counter 0), (0x0D, byte s.scan.counter 1), (0x0E, s.scan.inactivity / 8), (0x0F, 0),
          (0x1F, page)] ∧
      zero page 0x14 0x1F) ∧
    copy 0 s.store.staging ∧ copy 8 s.store.live ∧
    (∀ c : Channel,
      let k := s.keys[c]
      let delta : BitVec 16 := BitVec.ofInt 16 k.lastDelta
      let page := if c.val < 12 then 4 else 5
      let base := 0x20 + 16 * (c.val % 12)
      rows page base
        [(0,
            match k.state with
            | .off => 0
            | .cal => 1
            | .idle => 2
            | .prox => 3
            | .detect => 4
            | .pressed => 5
            | .suppressed => 6
            | .fault => 7),
          (1, flag k.near),
          (2,
            match k.faultKind with
            | .none => 0
            | .openCircuit => 1
            | .shorted => 2
            | .calUnstable => 3),
          (3,
            match k.trimStatus with
            | .none => 0
            | .ok => 1
            | .lowLimit => 2
            | .highLimit => 3
            | .failed => 4),
          (4, s.engine.hop[c].val), (5, k.baseline % 256), (6, k.baseline / 256 % 256), (7, k.lastCount % 256),
          (8, k.lastCount / 256 % 256), (9, byte delta 0), (10, byte delta 1)] ∧
      zero page (base + 11) (base + 16)) ∧
    zero 4 0xE0 0x100 ∧
    (∀ g : GroupId,
      rows 5 (0xE0 + 4 * g.val)
        [(0, flag s.groups[g].touched), (1, (s.groups[g].position.getD 0).toNat),
          (2, (s.groups[g].reported.getD 0).toNat), (3, 0)]) ∧
    zero 5 0xF8 0x100 ∧
    (∀ i : LineId,
      let l := s.lines[i]
      rows 6 (0x20 + 8 * i.val)
        [(0,
            match l.source with
            | .off => 0
            | .host => 1
            | .key c => 0x40 + c.val
            | .group g => 0x80 + g.val),
          (1, flag l.hostBit), (2, l.onLevel.toNat), (3, l.offLevel.toNat), (4, l.fade.toNat),
          (5, flag l.dozeDark + 2 * flag l.invert), (6, l.level.toNat), (7, 0)]) ∧
    zero 6 0x60 0x100 ∧
    (∀ page, page = 7 ∨ 12 ≤ page → page < 256 → zero page 0x20 0x100)

/-! ## Rounds -/

/-- ROUND_TIMER_EXPIRY (R19, R22 to R24, R26, R34, R168, log 2): of a stopped timer, nothing; with a round in flight, the
next round is due and OVERRUN set, the timer not restarted; with none and no commit pending, the next round starts, of
the mode's kind, over its measured channels, its timer one period ahead. With no channel to measure it completes in the
same event: counted, evaluated with no result, and with the ACTIVE checks where it is an ACTIVE round. -/
def Obligations.TimerStartsRound : Prop :=
  ∀ s : State, s.Runs →
    (s.scan.timer = none → exec .roundTimerExpiry s = .next s) ∧
    (s.scan.timer ≠ none → s.scan.round ≠ none →
      ∃ t, exec .roundTimerExpiry s = .next t ∧
        t.scan = { s.scan with timer := none, due := true, overrun := true } ∧ Keeps [.scan] s t) ∧
    (∀ (c : Channel) (rest : List Channel), s.scan.timer ≠ none → s.scan.round = none → s.store.snapshot = none →
      let doze := s.scan.mode = .doze
      (s.live.scanList.filter fun d => s.live.channels[d].wake || decide (¬ doze)) = c :: rest →
      ∃ t, exec .roundTimerExpiry s = .next t ∧
        t.scan = { s.scan with
          round := some ⟨if doze then .doze else .active, c :: rest, []⟩
          timer := some (if doze then 10 * s.live.globals.dozePeriod.toNat else s.live.globals.roundPeriod.toNat)
          due := false } ∧
        t.engine = { s.engine with current := some (s.live.measurementOf .scan c s.live.channels[c].trim) } ∧
        Keeps [.scan, .engine] s t) ∧
    (s.scan.timer ≠ none → s.scan.round = none → s.store.snapshot = none →
      let e := s.evaluate []
      let unit := s.command.afterEvaluation e.keys
      let quiet := quietCount e.keys s.scan.inactivity
      let dozes := dozesAt s.live quiet
      (s.scan.mode = .doze → (∀ c ∈ s.live.scanList, s.live.channels[c].wake = false) →
        ∃ t, exec .roundTimerExpiry s = .next t ∧ t.keys = e.keys ∧ t.groups = e.groups ∧ t.command = unit.1 ∧
          t.queue = e.queue.offerAll unit.2 ∧
          t.scan = { s.scan with
            counter := s.scan.counter + 1, timer := some (10 * s.live.globals.dozePeriod.toNat), due := false } ∧
          LinesFollow s t ∧ Keeps [.keys, .groups, .command, .queue, .scan, .lines] s t) ∧
      (s.scan.mode ≠ .doze → s.live.scanList = [] →
        ∃ t, exec .roundTimerExpiry s = .next t ∧ t.keys = e.keys ∧ t.groups = e.groups ∧ t.command = unit.1 ∧
          t.queue = e.queue.offerAll (unit.2 ++ if dozes then [⟨.mode, 2, 0x01, 0xFF⟩] else []) ∧
          t.scan = { s.scan with
            mode := if dozes then .doze else s.scan.mode
            counter := s.scan.counter + 1
            inactivity := quiet
            timer := some
              (if dozes then 10 * s.live.globals.dozePeriod.toNat else s.live.globals.roundPeriod.toNat)
            due := false } ∧
          LinesFollow s t ∧ Keeps [.keys, .groups, .command, .queue, .scan, .lines] s t))

/-- A round start with a commit pending (R22, R26, R33, R126, R141 to R147, R160, R161): the snapshot is installed first,
each key by the table of R143, the groups by R145, the records in R147's order; a DOZE mode becomes ACTIVE, the command
ends, and an ACTIVE round over the whole new list starts on the new period, or completes at once over an empty list. The
start comes at the timer's expiry, or at the completion of a round (R142): of an ACTIVE round with the next one due, of a
DOZE round that finds a wake key, or none with the next one due, and of a DOZE round that completes in ACTIVE. The
validity of the store, NearFits and OffUnlisted are invariants, stated below. What makes two group definitions differ is
log 9; an emptied accumulator is log 8. -/
def Obligations.RoundStartInstallsCommit : Prop :=
  ∀ (s : State) (new : Configuration), s.Runs → s.store.Valid → s.NearFits → s.OffUnlisted →
    s.store.snapshot = some new →
    (s.scan.timer ≠ none → s.scan.round = none → (s.scan.mode = .active ∨ s.scan.mode = .doze) →
      ∃ t, exec .roundTimerExpiry s = .next t ∧ InstallStarts s new t ∧ LinesFollow s t ∧
        Keeps [.store, .scan, .engine, .keys, .groups, .queue, .command, .lines] s t) ∧
    (∀ (m : Measurement) (r : Round) (cycles : Nat), s.LastResult m r cycles →
      let e := s.evaluate (r.results ++ [m.resultWith cycles])
      let unit := s.command.afterEvaluation e.keys
      let quiet := quietCount e.keys s.scan.inactivity
      let ended (mode : Mode) (inactivity : Nat) (records : List EventRecord) : State :=
        { s with
          keys := e.keys
          groups := e.groups
          command := unit.1
          queue := e.queue.offerAll (unit.2 ++ records)
          engine := { s.engine with current := none }
          scan := { s.scan with
            mode := mode, round := none, counter := s.scan.counter + 1, inactivity := inactivity } }
      let starts (u : State) : Prop :=
        ∃ t, exec (.conversion cycles) s = .next t ∧ InstallStarts u new t ∧ LinesFollow s t ∧
          Keeps [.store, .scan, .engine, .keys, .groups, .queue, .command, .lines] s t
      (r.kind = .active → s.scan.mode = .active → s.scan.due = true → ¬ dozesAt s.live quiet →
        starts (ended .active quiet [])) ∧
      (r.kind = .doze → s.scan.mode = .active → starts (ended .active s.scan.inactivity [])) ∧
      (r.kind = .doze → s.scan.mode = .doze →
        (∀ c : Channel, s.live.wakingKey e.keys = some c → starts (ended .active 0 [⟨.mode, 1, 0x02, idByte c⟩])) ∧
        (s.live.wakingKey e.keys = none → s.scan.due = true → starts (ended .doze s.scan.inactivity []))))

/-- The last result of an ACTIVE round in ACTIVE (R26, R27, R75, R160, R161): the round is counted and evaluated; a
waiting RECAL loses the keys that left CAL, and its CMD_DONE follows the evaluation's records; the inactivity count
moves, and at its limit the mode becomes DOZE and a due round is dropped; a due round starts otherwise. A pending commit
stays pending, unless a due round starts: that is the subject of RoundStartInstallsCommit. -/
def Obligations.ActiveRoundCompletes : Prop :=
  ∀ (s : State) (m : Measurement) (r : Round) (cycles : Nat) (c : Channel) (rest : List Channel), s.Runs →
    s.LastResult m r cycles → r.kind = .active → s.scan.mode = .active → s.live.scanList = c :: rest →
    let e := s.evaluate (r.results ++ [m.resultWith cycles])
    let unit := s.command.afterEvaluation e.keys
    let quiet := quietCount e.keys s.scan.inactivity
    let dozes := dozesAt s.live quiet
    (s.store.snapshot = none ∨ s.scan.due = false ∨ dozes) →
    ∃ t, exec (.conversion cycles) s = .next t ∧ t.keys = e.keys ∧ t.groups = e.groups ∧ t.command = unit.1 ∧
      t.queue = e.queue.offerAll (unit.2 ++ if dozes then [⟨.mode, 2, 0x01, 0xFF⟩] else []) ∧
      t.scan =
        (if dozes then
          { s.scan with
            mode := .doze, round := none, counter := s.scan.counter + 1, inactivity := quiet, due := false,
            timer := some (10 * s.live.globals.dozePeriod.toNat) }
        else if s.scan.due then
          { s.scan with
            round := some ⟨.active, c :: rest, []⟩, counter := s.scan.counter + 1, inactivity := quiet, due := false,
            timer := some s.live.globals.roundPeriod.toNat }
        else { s.scan with round := none, counter := s.scan.counter + 1, inactivity := quiet }) ∧
      t.engine =
        { s.engine with
          current :=
            if ¬ dozes ∧ s.scan.due = true then some (s.live.measurementOf .scan c s.live.channels[c].trim)
            else none } ∧
      LinesFollow s t ∧ Keeps [.keys, .groups, .command, .queue, .scan, .engine, .lines] s t

/-- The last result of a DOZE round (R26, R32 to R34, R75, R165): counted and evaluated. In DOZE, the first wake key out
of OFF, IDLE and FAULT makes the mode ACTIVE, names itself in MODE, and the first ACTIVE round starts at once; with none,
the mode stays, and the next DOZE round starts where one is due, or the timer runs on. Where WAKE or RECAL has made the
mode ACTIVE, no wake key is looked for, a waiting RECAL loses the keys that left CAL, and the first ACTIVE round starts
at once. A start with a commit pending is the subject of RoundStartInstallsCommit. -/
def Obligations.DozeRoundLooksForWakeKey : Prop :=
  ∀ (s : State) (m : Measurement) (r : Round) (cycles : Nat) (c : Channel) (rest : List Channel), s.Runs →
    s.LastResult m r cycles → r.kind = .doze → s.live.scanList = c :: rest →
    let e := s.evaluate (r.results ++ [m.resultWith cycles])
    let unit := s.command.afterEvaluation e.keys
    let counted : ScanController := { s.scan with round := none, counter := s.scan.counter + 1 }
    let ends (records : List EventRecord) (scan : ScanController) (current : Option Measurement) : Prop :=
      ∃ t, exec (.conversion cycles) s = .next t ∧ t.keys = e.keys ∧ t.groups = e.groups ∧ t.command = unit.1 ∧
        t.queue = e.queue.offerAll (unit.2 ++ records) ∧ t.scan = scan ∧
        t.engine = { s.engine with current := current } ∧ LinesFollow s t ∧
        Keeps [.keys, .groups, .command, .queue, .scan, .engine, .lines] s t
    let activeRound (inactivity : Nat) : ScanController :=
      { counted with
        mode := .active, round := some ⟨.active, c :: rest, []⟩, inactivity := inactivity,
        timer := some s.live.globals.roundPeriod.toNat, due := false }
    let request (d : Channel) : Option Measurement := some (s.live.measurementOf .scan d s.live.channels[d].trim)
    (s.scan.mode = .doze →
      (s.live.wakingKey e.keys = none → s.scan.due = false → ends [] counted none) ∧
      (∀ (w : Channel) (ws : List Channel), s.live.wakingKey e.keys = none → s.scan.due = true →
        s.store.snapshot = none → (s.live.scanList.filter fun d => s.live.channels[d].wake) = w :: ws →
        ends []
          { counted with
            round := some ⟨.doze, w :: ws, []⟩, timer := some (10 * s.live.globals.dozePeriod.toNat), due := false }
          (request w)) ∧
      (∀ w : Channel, s.live.wakingKey e.keys = some w → s.store.snapshot = none →
        ends [⟨.mode, 1, 0x02, idByte w⟩] (activeRound 0) (request c))) ∧
    (s.scan.mode = .active → s.store.snapshot = none → ends [] (activeRound s.scan.inactivity) (request c))

/-- The evaluation of a result set under a valid live copy (R41, R53 to R55, R83, R87): every measured key takes its own
step; the members of an EXCLUSIVE group are then arbitrated, from the keys before the evaluation and after their steps;
every group takes its stage; the records are those of the keys in scan-list order, KEY_DOWN of a newly pressed key that
is no SLIDER or WHEEL member among them, then those of the groups in index order. -/
def Obligations.EvaluationStepsKeysThenGroups : Prop :=
  ∀ (s : State) (results : List MeasResult), s.live.valid = true →
    let e := s.evaluate results
    let outcome (c : Channel) : KeyOutcome :=
      match results.find? fun r => r.channel == c with
      | none => (s.keys[c], [])
      | some r => keyStage s.live r s.keys[c]
    let stepped : Vector KeyRecord 24 := tab fun c => (outcome c).1
    (∀ c : Channel, (∀ g : GroupId, s.live.groups[g].groupKind = .exclusive → c ∉ s.live.groups[g].memberList) →
      e.keys[c] = stepped[c]) ∧
    (∀ g : GroupId, s.live.groups[g].groupKind = .exclusive →
      (e.groups[g].touched = true ↔ ∃ c ∈ s.live.groups[g].memberList, e.keys[c].state = .pressed) ∧
      ∀ c ∈ s.live.groups[g].memberList,
        e.keys[c] = (arbitrate s.live.groups[g].memberList s.keys stepped)[c]) ∧
    (∀ g : GroupId, e.groups[g] = (groupStage s.live e.keys g s.groups[g]).1) ∧
    e.queue = s.queue.offerAll
      (s.live.scanList.flatMap (fun c => (outcome c).2 ++
          if e.keys[c].state = .pressed ∧ s.keys[c].state ≠ .pressed ∧ s.live.sliderMember c = false then
            [⟨.keyDown, idByte c, BitVec.ofNat 8 (min 255 e.keys[c].lastDelta.toNat), 0⟩] else [])
        ++ allGroups.flatMap fun g => (groupStage s.live e.keys g s.groups[g]).2) ∧
    Keeps [.keys, .groups, .queue] s e

/-- A waiting RECAL at an evaluation (R75): the keys that left CAL leave the waiting set, those that went to FAULT are
counted; an empty set ends the command with OK and that count, and a set that is left keeps it waiting. -/
def Obligations.RecalWaitsForKeys : Prop :=
  ∀ (s : State) (waiting : List Channel) (faulted : Nat) (a b : Byte) (results : List MeasResult),
    s.command.inProgress = some ⟨.recal waiting faulted, a, b⟩ → (∀ c ∈ waiting, s.keys[c].state = .cal) →
    let e := s.evaluate results
    let t := e.advanceRecal
    let still := waiting.filter fun c => e.keys[c].state == .cal
    let count := faulted + (waiting.filter fun c => e.keys[c].state == .fault).length
    t.keys = e.keys ∧ t.groups = e.groups ∧
    (still ≠ [] → t.queue = e.queue ∧
      t.command = { s.command with inProgress := some ⟨.recal still count, a, b⟩ }) ∧
    (still = [] → t.queue = e.queue.offer ⟨.cmdDone, 0x04, 0x02, BitVec.ofNat 8 count⟩ ∧
      t.command = { s.command.reporting 0x04 .ok (BitVec.ofNat 8 count) with inProgress := none })

/-! ## Measurement -/

/-- CONVERSION (R1, R3, R5, R9, R12, R25, R153): inside a burst it adds its count, at most the ceiling; a NOISY burst with
retries left moves the channel's hop index and begins a new burst; the result of a scan measurement that leaves channels
to measure joins the result set, and the next channel is requested; the result of a trim measurement goes to the trim
unit, with the engine IDLE. With the engine IDLE a conversion is no event and nothing happens: the model's choice (log
2). A request's burst is 4, 8, 16 or 32 conversions for the burst codes 0 to 3 (R3, R184). While a measurement is in
progress the sense lines of its electrode set are joined and all others driven low; between measurements every line is
driven low (R1). -/
def Obligations.ConversionsAndRetries : Prop :=
  (∀ (cfg : Configuration) (requester : Requester) (c : Channel) (trim : BitVec 6),
    let code := cfg.channels[c].burst
    let burst := (cfg.measurementOf requester c trim).burstLength
    (code = 0 → burst = 4) ∧ (code = 1 → burst = 8) ∧ (code = 2 → burst = 16) ∧ (code = 3 → burst = 32)) ∧
  ∀ (s : State) (cycles : Nat), s.Runs →
    (∀ line : Fin 20, s.joinedLines.getLsbD line.val = true ↔
      ∃ m, s.engine.current = some m ∧ m.electrodes.getLsbD line.val = true) ∧
    (s.engine.current = none → exec (.conversion cycles) s = .next s) ∧
    ∀ m : Measurement, s.engine.current = some m →
      let counts := m.counts ++ [min cycles m.ceiling]
      (counts.length < m.burstLength →
        ∃ t, exec (.conversion cycles) s = .next t ∧
          t.engine = { s.engine with current := some { m with counts := counts } } ∧ Keeps [.engine] s t) ∧
      (m.burstLength ≤ counts.length → burstVerdict m counts = .noisy → m.retries ≠ 0 →
        ∃ t, exec (.conversion cycles) s = .next t ∧
          t.engine.current = some { m with retries := m.retries - 1, counts := [] } ∧
          (∀ c : Channel, t.engine.hop[c] =
            if c = m.channel then nextHop m.hopSet s.engine.hop[c] else s.engine.hop[c]) ∧
          Keeps [.engine] s t) ∧
      (∀ (r : Round) (next : Channel), m.requester = .scan → s.scan.round = some r → counts.length = m.burstLength →
        (burstVerdict m counts ≠ .noisy ∨ m.retries = 0) → r.measured[r.results.length + 1]? = some next →
        ∃ t, exec (.conversion cycles) s = .next t ∧
          t.scan = { s.scan with
            round := some { r with
              results := r.results ++ [⟨m.channel, burstVerdict m counts, counts.sum / m.burstLength⟩] } } ∧
          t.engine = { s.engine with
            current := some (s.live.measurementOf .scan next s.live.channels[next].trim) } ∧
          Keeps [.scan, .engine] s t) ∧
      (m.requester = .trim → m.EndsWith cycles →
        let u := (s.withEngine { s.engine with current := none }).receiveTrim (m.resultWith cycles)
        ∃ t, exec (.conversion cycles) s = .next t ∧ LinesFollow s t ∧ Keeps [.lines] u t)

/-- The outcome of a burst, by its counts (R4). Its mean, by floor division, is at least any number that no count is
below, and at most any number that no count is above, the ceiling among them (R3). -/
def Obligations.BurstOutcome : Prop :=
  ∀ (m : Measurement) (counts : List Nat), counts ≠ [] → (∀ n ∈ counts, n ≤ m.ceiling) →
    let mean := counts.sum / counts.length
    (burstVerdict m counts = .openCircuit ↔ m.ceiling ∈ counts) ∧
    (burstVerdict m counts = .shorted ↔ m.ceiling ∉ counts ∧ mean < m.floor) ∧
    (burstVerdict m counts = .noisy ↔ m.ceiling ∉ counts ∧ m.floor ≤ mean ∧
      ∃ a ∈ counts, ∃ b ∈ counts, m.noiseLimit + b < a) ∧
    (burstVerdict m counts = .valid ↔ m.ceiling ∉ counts ∧ m.floor ≤ mean ∧
      ∀ a ∈ counts, ∀ b ∈ counts, a ≤ m.noiseLimit + b) ∧
    mean ≤ m.ceiling ∧
    (∀ low : Nat, (∀ n ∈ counts, low ≤ n) → low ≤ mean) ∧ (∀ high : Nat, (∀ n ∈ counts, n ≤ high) → mean ≤ high)

/-- The next frequency (R10): the lowest of the set above the given one, or else the lowest of the set. -/
def Obligations.NextFrequency : Prop :=
  ∀ (set : BitVec 5) (h : Hop), set ≠ 0 →
    inHopSet set (nextHop set h) = true ∧ inHopSet set (lowestHop set) = true ∧
    (∀ k : Hop, inHopSet set k = true → lowestHop set ≤ k) ∧
    ((∃ k : Hop, h < k ∧ inHopSet set k = true) →
      h < nextHop set h ∧ ∀ k : Hop, h < k → inHopSet set k = true → nextHop set h ≤ k) ∧
    ((∀ k : Hop, h < k → inHopSet set k = false) → nextHop set h = lowestHop set)

/-! ## Trim -/

/-- The result of a measurement that reaches the trim unit (R128, R153 to R156). In passes 1 to 6 it decides the place under
test by the outcome and the mean; in pass 7 it sets the found status. The next channel of the pass, or the first of the
next pass, is then requested at its trial value with the pass's place added. The last result of pass 7 completes the
trim: found values written into both copies, found statuses into the key records, the listed keys not in FAULT sent to
CAL, then MODE and CMD_DONE. That an emptied accumulator's smallest and largest sample are 0 is the model's choice (log
8). -/
def Obligations.TrimSearchesAndCompletes : Prop :=
  ∀ (s : State) (run : TrimRun) (r : MeasResult), s.trimRun = some run → 1 ≤ run.pass → run.pass ≤ 7 →
    let place (pass : Nat) : BitVec 6 := if pass = 7 then 0 else BitVec.ofNat 6 (2 ^ (6 - pass))
    let kept := (r.verdict = .valid ∧ r.mean ≤ run.hi) ∨ r.verdict = .shorted
    let trial (c : Channel) : BitVec 6 :=
      if c = r.channel ∧ run.pass ≠ 7 ∧ kept then run.trial[c] + place run.pass else run.trial[c]
    let status (c : Channel) : TrimStatus :=
      if c = r.channel ∧ run.pass = 7 then
        (if r.verdict ≠ .valid then .failed
        else if r.mean < run.lo ∧ run.trial[c] = 63 then .lowLimit
        else if run.lo ≤ r.mean ∧ run.hi < r.mean ∧ run.trial[c] = 0 then .highLimit else .ok)
      else run.found[c]
    let inPass := run.place + 1 < run.channels.length
    let pass := if inPass then run.pass else run.pass + 1
    let position := if inPass then run.place + 1 else 0
    let t := s.receiveTrim r
    (∀ next : Channel, (inPass ∨ run.pass ≠ 7) → run.channels[position]? = some next →
      Keeps [.trimRun, .engine] s t ∧
      t.engine = { s.engine with current := some (s.live.measurementOf .trim next (trial next + place pass)) } ∧
      ∃ run', t.trimRun = some run' ∧ run'.channels = run.channels ∧ run'.lo = run.lo ∧ run'.hi = run.hi ∧
        run'.pass = pass ∧ run'.place = position ∧ ∀ c : Channel, run'.trial[c] = trial c ∧ run'.found[c] = status c) ∧
    (run.pass = 7 → run.place + 1 = run.channels.length → run.channels = s.live.scanList →
      (∀ c : Channel, s.keys[c].near = false) →
      let written (c : Channel) : Prop := s.live.listed c = true ∧ status c ≠ .failed ∧ status c ≠ .none
      let detail : Byte := BitVec.ofNat 8 (s.live.scanList.filter fun c => status c != .ok).length
      (∀ c : Channel, t.live.channels[c] =
        if written c then { s.live.channels[c] with trim := run.trial[c] } else s.live.channels[c]) ∧
      (∀ c : Channel, t.store.staging.channels[c] =
        if written c then { s.store.staging.channels[c] with trim := run.trial[c] }
        else s.store.staging.channels[c]) ∧
      t.store =
        { s.store with
          live := { s.live with channels := t.live.channels },
          staging := { s.store.staging with channels := t.store.staging.channels } } ∧
      (∀ c : Channel, t.keys[c] =
        if s.live.listed c = true then
          (if s.keys[c].state = .fault then { s.keys[c] with trimStatus := status c }
          else { s.keys[c].atCal with trimStatus := status c })
        else s.keys[c]) ∧
      t.trimRun = none ∧ t.scan = { s.scan with mode := .stopped } ∧
      t.queue = s.queue.offerAll [⟨.mode, 0, 0x05, 0xFF⟩, ⟨.cmdDone, 0x05, 0x02, detail⟩] ∧
      t.command = { s.command.reporting 0x05 .ok detail with inProgress := none } ∧
      Keeps [.store, .keys, .trimRun, .scan, .queue, .command] s t)

/-! ## Indicators, frames and pulses -/

/-- FADE_TIMER_EXPIRY of a running timer moves the level one step toward the target, and stops the timer there (R173); a
stopped timer does not expire, and nothing happens: the model's choice (log 2). PULSE_TIMER_EXPIRY ends the pulse (R117).
PWM_FRAME (R175): in the frame that starts, a line is on for its level in 63rds of the frame, from its start, and driven
low while on, or high with the invert flag set. The ATTN line is inactive in OFF, active in LEVEL exactly when the queue
is not empty, and in PULSE exactly while a pulse is in progress (R115 to R117). -/
def Obligations.TimedOutputs : Prop :=
  ∀ s : State, s.Runs →
    (∀ i : LineId, s.lines[i].timer = none → exec (.fadeTimerExpiry i) s = .next s) ∧
    (∀ i : LineId, s.lines[i].timer ≠ none →
      let l := s.lines[i]
      let target := s.targetLevel l
      ∃ t, exec (.fadeTimerExpiry i) s = .next t ∧ (∀ j : LineId, j ≠ i → t.lines[j] = s.lines[j]) ∧
        t.lines[i] = { l with level := t.lines[i].level, timer := t.lines[i].timer } ∧
        t.lines[i].level.toNat =
          (if l.level.toNat < target.toNat then l.level.toNat + 1
          else if target.toNat < l.level.toNat then l.level.toNat - 1 else l.level.toNat) ∧
        t.lines[i].timer = (if t.lines[i].level = target then none else some (8 * l.fade.toNat)) ∧
        Keeps [.lines] s t) ∧
    (∃ t, exec .pulseTimerExpiry s = .next t ∧ t.queue = { s.queue with pulse := false } ∧ Keeps [.queue] s t) ∧
    (∃ t, exec .pwmFrame s = .next t ∧ Keeps [.lines] s t ∧
      ∀ i : LineId,
        t.lines[i] = { s.lines[i] with frameDuty := s.lines[i].level, frameInvert := s.lines[i].invert } ∧
        ∀ moment : Nat, moment < 63 →
          t.lines[i].drivenHigh moment =
            if moment < s.lines[i].level.toNat then s.lines[i].invert else !s.lines[i].invert) ∧
    (s.queue.attnMode = .off → s.queue.attnActive = false) ∧
    (s.queue.attnMode = .level → (s.queue.attnActive = true ↔ s.queue.records ≠ [])) ∧
    (s.queue.attnMode = .pulse → s.queue.attnActive = s.queue.pulse)

/-! ## Keys -/

/-- The step of a VALID result in IDLE, PROX, DETECT, PRESSED and SUPPRESSED (R39, R40, R42 to R47): the whole record
and the records produced, by the touch test, the near test and the release threshold. A key that stays in IDLE is the
subject of DriftAndRebase. -/
def Obligations.ValidStepsByState : Prop :=
  ∀ (g : Globals) (ch : ChannelConfig) (member : Bool) (c : Channel) (mean : Nat) (k : KeyRecord),
    let d : Int := (k.baseline : Int) - mean
    let touch := (ch.touch.toNat : Int) ≤ d
    let near := ch.prox.toNat ≠ 0 ∧ (ch.prox.toNat : Int) ≤ d
    let below := d < (ch.release.toNat : Int)
    let k₀ : KeyRecord := { k with lastCount := mean, faultCount := 0, lastDelta := d }
    let toProx : KeyOutcome :=
      ({ k₀ with state := .prox, debounce := 0, release := 0, onDuration := 0, near := true },
        if k.near then [] else [⟨.proxOn, idByte c, 0, 0⟩])
    let toIdle : KeyOutcome :=
      ({ k₀ with state := .idle, debounce := 0, release := 0, onDuration := 0, negative := 0, near := false },
        if k.near then [⟨.proxOff, idByte c, 0, 0⟩] else [])
    let toDetect : KeyOutcome := ({ k₀ with state := .detect, debounce := 1, release := 0, onDuration := 0 }, [])
    let toPressed : KeyOutcome := ({ k₀ with state := .pressed, debounce := 0, release := 0, onDuration := 0 }, [])
    let up := if ch.downDebounce.toNat = 1 then toPressed else toDetect
    let down := if near then toProx else toIdle
    let keyUp : List EventRecord := if member then [] else [⟨.keyUp, idByte c, 0x00, 0⟩]
    let o := channelStep g ch member ⟨c, .valid, mean⟩ k
    (k.state = .idle → (touch → o = up) ∧ (¬ touch → near → o = toProx)) ∧
    (k.state = .prox → o = if touch then up else if near then (k₀, []) else toIdle) ∧
    (k.state = .detect →
      o = if touch then
          (if ch.downDebounce.toNat ≤ k.debounce + 1 then toPressed
          else ({ k₀ with debounce := k.debounce + 1 }, []))
        else down) ∧
    (k.state = .pressed →
      o = if below then
          (if ch.upDebounce.toNat ≤ k.release + 1 then (down.1, keyUp ++ down.2)
          else ({ k₀ with release := k.release + 1 }, []))
        else ({ k₀ with release := 0 }, [])) ∧
    (k.state = .suppressed → o = if below then down else (k₀, []))

/-- A NOISY result leaves the record as it is, and a key in FAULT keeps its record whatever the result (R48, R49). OPEN
and SHORT results (R50): the fault counter rises; at fault rounds the key enters FAULT with the kind of this result,
with KEY_UP(FAULT), PROX_OFF and FAULT in that order where each applies. An emptied accumulator is log 8. -/
def Obligations.ResultsThatAreNotValid : Prop :=
  ∀ (g : Globals) (ch : ChannelConfig) (member : Bool) (r : MeasResult) (k : KeyRecord),
    ((r.verdict = .noisy ∨ k.state = .fault) → channelStep g ch member r k = (k, [])) ∧
    ((r.verdict = .openCircuit ∨ r.verdict = .shorted) → k.state ≠ .off → k.state ≠ .fault →
      let count := min 15 (k.faultCount + 1)
      let kind : FaultKind := if r.verdict = .openCircuit then .openCircuit else .shorted
      channelStep g ch member r k =
        if count < g.faultRounds.toNat then ({ k with faultCount := count }, [])
        else
          ({ k with
              state := .fault, faultCount := count, faultKind := kind, debounce := 0, release := 0, onDuration := 0,
              acc := Accumulator.empty, near := false },
            (if k.state = .pressed ∧ member = false then [⟨.keyUp, idByte r.channel, 0x02, 0⟩] else [])
              ++ (if k.near then [⟨.proxOff, idByte r.channel, 0, 0⟩] else [])
              ++ [⟨.fault, idByte r.channel, kind.code, 0⟩]))

/-- A key in CAL with a VALID result (R42, R48, R63 to R65): a sample; at cal samples the attempt succeeds, starts over,
or at the third failure sends the key to FAULT. -/
def Obligations.CalibrationAttempts : Prop :=
  ∀ (g : Globals) (ch : ChannelConfig) (member : Bool) (c : Channel) (mean : Nat) (k : KeyRecord),
    k.state = .cal → k.near = false →
    let acc := k.acc.add mean
    let full := g.calSamples.toNat ≤ acc.samples
    let spread := acc.largest - acc.smallest
    let o := channelStep g ch member ⟨c, .valid, mean⟩ k
    let k₀ : KeyRecord := { k with lastCount := mean, faultCount := 0, lastDelta := 0, acc := o.1.acc }
    acc.sum = k.acc.sum + mean ∧ acc.samples = k.acc.samples + 1 ∧ acc.attempt = k.acc.attempt ∧
    acc.smallest = (if k.acc.samples = 0 then mean else min k.acc.smallest mean) ∧
    acc.largest = (if k.acc.samples = 0 then mean else max k.acc.largest mean) ∧
    (¬ full → o = (k₀, []) ∧ o.1.acc = acc) ∧
    (full → o.1.acc.sum = 0 ∧ o.1.acc.samples = 0) ∧
    (full → spread ≤ g.calSpread.toNat →
      o = ({ k₀ with
          state := .idle, baseline := acc.sum / acc.samples, debounce := 0, release := 0, onDuration := 0,
          negative := 0 },
        [⟨.calDone, idByte c, 0, BitVec.ofNat 8 k.acc.attempt⟩]) ∧
      o.1.acc.attempt = 1) ∧
    (full → g.calSpread.toNat < spread → k.acc.attempt < 3 → o = (k₀, []) ∧ o.1.acc.attempt = k.acc.attempt + 1) ∧
    (full → g.calSpread.toNat < spread → 3 ≤ k.acc.attempt →
      o = ({ k₀ with state := .fault, faultKind := .calUnstable, debounce := 0, release := 0, onDuration := 0 },
        [⟨.calDone, idByte c, 1, 3⟩, ⟨.fault, idByte c, 3, 0⟩]) ∧
      o.1.acc.attempt = 1)

/-- A key that stays in IDLE (R67 to R70): the anti-touch check rebases it at neg rounds; else a drift step, at the
drift interval, moves the baseline toward the mean by at most drift step and never past it. No other field changes but
those of R42. -/
def Obligations.DriftAndRebase : Prop :=
  ∀ (g : Globals) (ch : ChannelConfig) (member : Bool) (c : Channel) (mean : Nat) (k : KeyRecord),
    k.state = .idle →
    let d : Int := (k.baseline : Int) - mean
    d < (ch.touch.toNat : Int) → (ch.prox.toNat = 0 ∨ d < (ch.prox.toNat : Int)) →
    let negative : Nat := if d ≤ -(g.negLimit.toNat : Int) then k.negative + 1 else 0
    let drifts := g.driftInterval.toNat ≤ k.drift + 1
    let o := channelStep g ch member ⟨c, .valid, mean⟩ k
    (g.negRounds.toNat ≤ negative →
      o = ({ k with
          baseline := mean, lastCount := mean, lastDelta := 0, faultCount := 0, drift := 0, negative := 0 },
        [⟨.rebase, idByte c, 0, 0⟩])) ∧
    (negative < g.negRounds.toNat →
      o = ({ k with
          baseline := o.1.baseline, lastCount := mean, lastDelta := d, faultCount := 0, negative := negative,
          drift := if drifts then 0 else k.drift + 1 }, []) ∧
      (¬ drifts → o.1.baseline = k.baseline) ∧
      (drifts → mean ≤ k.baseline →
        mean ≤ o.1.baseline ∧ k.baseline - o.1.baseline = min g.driftStep.toNat (k.baseline - mean)) ∧
      (drifts → k.baseline ≤ mean →
        o.1.baseline ≤ mean ∧ o.1.baseline - k.baseline = min g.driftStep.toNat (mean - k.baseline)))

/-- Max-on (R51): a key PRESSED before and after its channel step counts the round; at max-on times 16 it enters CAL
with KEY_UP(MAXON), unless it is a slider member, and PROX_OFF where its near flag was set. An emptied accumulator is
log 8. -/
def Obligations.MaxOnRecalibrates : Prop :=
  ∀ (cfg : Configuration) (r : MeasResult) (k : KeyRecord),
    let ch := cfg.channels[r.channel]
    let o := channelStep cfg.globals ch (cfg.sliderMember r.channel) r k
    let count := min 4080 (o.1.onDuration + 1)
    keyStage cfg r k =
      if k.state = .pressed ∧ o.1.state = .pressed then
        (if ch.maxOn.toNat ≠ 0 ∧ 16 * ch.maxOn.toNat ≤ count then
          (o.1.atCal, o.2 ++ forcedRecords (cfg.sliderMember r.channel) 0x01 r.channel o.1)
        else ({ o.1 with onDuration := count }, o.2))
      else o

/-! ## Groups -/

/-- The arbitration of an EXCLUSIVE group (R84 to R87): an incumbent stays and every candidate is suppressed; without
one the candidate with the largest last delta wins, the lowest index on a tie, and the others are suppressed; with
neither, the strongest SUPPRESSED member is raised; no other key changes. With at most one incumbent, at most one member
is left PRESSED. -/
def Obligations.ExclusiveArbitration : Prop :=
  ∀ (members : List Channel) (prior keys : Vector KeyRecord 24), members.Nodup →
    let after := arbitrate members prior keys
    let incumbent (c : Channel) : Prop := c ∈ members ∧ prior[c].state = .pressed ∧ keys[c].state = .pressed
    let candidate (c : Channel) : Prop := c ∈ members ∧ prior[c].state ≠ .pressed ∧ keys[c].state = .pressed
    let waiting (c : Channel) : Prop := c ∈ members ∧ keys[c].state = .suppressed
    let beats (c d : Channel) : Prop := keys[d].lastDelta < keys[c].lastDelta ∨
      (keys[d].lastDelta = keys[c].lastDelta ∧ members.idxOf c ≤ members.idxOf d)
    let suppressed (c : Channel) : KeyRecord :=
      { keys[c] with state := .suppressed, debounce := 0, release := 0, onDuration := 0 }
    let raised (c : Channel) : KeyRecord :=
      { keys[c] with state := .pressed, debounce := 0, release := 0, onDuration := 0 }
    (∀ c, incumbent c → after[c] = keys[c]) ∧
    ((∃ c, incumbent c) → ∀ c, candidate c → after[c] = suppressed c) ∧
    ((¬ ∃ c, incumbent c) → ∀ c, candidate c →
      after[c] = if ∀ d, candidate d → beats c d then keys[c] else suppressed c) ∧
    ((¬ ∃ c, incumbent c) → (¬ ∃ c, candidate c) → ∀ c, waiting c →
      after[c] = if ∀ d, waiting d → beats c d then raised c else keys[c]) ∧
    ((∃ c, keys[c].state = .pressed ∧ c ∈ members) → ∀ c, waiting c → after[c] = keys[c]) ∧
    (∀ c, ¬ incumbent c → ¬ candidate c → ¬ waiting c → after[c] = keys[c]) ∧
    ((∀ c d, incumbent c → incumbent d → c = d) →
      ∀ c ∈ members, ∀ d ∈ members, after[c].state = .pressed → after[d].state = .pressed → c = d)

/-- The position of a SLIDER (R88, R89): 255 times the weighted member index over the sum, floor division; from 0 at
the first member to 255 at the last, and for one touched member its place on the scale. The position of a WHEEL (R90):
from 0 to 255, and by the formula for the first member with the largest weight and its two neighbours on the ring. -/
def Obligations.GroupPositions : Prop :=
  (∀ ws : List Nat, 2 ≤ ws.length → 0 < ws.sum →
    sliderPosition ws ≤ 255 ∧
    sliderPosition ws = 255 * ((ws.zipIdx.map fun p => p.2 * p.1).sum) / ((ws.length - 1) * ws.sum) ∧
    (∀ j : Nat, j < ws.length → (∀ i, i < ws.length → i ≠ j → ws.getD i 0 = 0) →
      sliderPosition ws = 255 * j / (ws.length - 1))) ∧
  (∀ (ws : List Nat) (i : Nat), 3 ≤ ws.length → 0 < ws.sum → i < ws.length →
    (∀ j, j < ws.length → ws.getD j 0 ≤ ws.getD i 0) → (∀ j, j < i → ws.getD j 0 < ws.getD i 0) →
    let n := ws.length
    let a := ws.getD (if i = 0 then n - 1 else i - 1) 0
    let b := ws.getD i 0
    let c := ws.getD (if i + 1 = n then 0 else i + 1) 0
    let total := a + b + c
    0 < total ∧ wheelPosition ws < 256 ∧
    (a ≤ i * total + c → wheelPosition ws = 256 * (i * total + c - a) / (n * total) % 256) ∧
    (i * total + c < a → wheelPosition ws = 256 * (n * total + i * total + c - a) / (n * total) % 256))

/-- The group stage of a SLIDER or WHEEL (R91 to R94): touched by a PRESSED member it takes a position and reports
it; touched on, it reports a move of at least the threshold from the last report; left, it reports its position. With
weights of sum 0 the position is kept, and a first one that is NONE is reported as 0: for a group that was not touched
that is the model's choice (log 12). -/
def Obligations.GroupTouchMoveRelease : Prop :=
  ∀ (cfg : Configuration) (keys : Vector KeyRecord 24) (g : GroupId) (run : GroupRun),
    cfg.groups[g].hasPosition = true →
    let d := cfg.groups[g]
    let pressed := ∃ c ∈ d.memberList, keys[c].state = .pressed
    let ws := d.memberList.map fun c => keys[c].lastDelta.toNat
    let p : Option Byte :=
      if ws.sum = 0 then run.position
      else some (BitVec.ofNat 8 (if d.groupKind = .wheel then wheelPosition ws else sliderPosition ws))
    let apart : Nat := (p.getD 0).toNat - (run.reported.getD 0).toNat + ((run.reported.getD 0).toNat - (p.getD 0).toNat)
    let distance : Nat := if d.groupKind = .wheel then min apart (256 - apart) else apart
    (pressed → run.touched = false →
      groupStage cfg keys g run = (⟨true, p, p⟩, [⟨.groupTouch, idByte g, p.getD 0, 0⟩])) ∧
    (pressed → run.touched = true → d.moveThreshold.toNat ≤ distance →
      groupStage cfg keys g run = (⟨true, p, p⟩, [⟨.groupMove, idByte g, p.getD 0, 0⟩])) ∧
    (pressed → run.touched = true → distance < d.moveThreshold.toNat →
      groupStage cfg keys g run = (⟨true, p, run.reported⟩, [])) ∧
    (¬ pressed → run.touched = true →
      groupStage cfg keys g run = (⟨false, none, none⟩, [⟨.groupRelease, idByte g, run.position.getD 0, 0x00⟩])) ∧
    (¬ pressed → run.touched = false → groupStage cfg keys g run = (run, []))

/-! ## The event queue -/

/-- A record offered to the queue (R101, R103, R105, R107, R108, R117): each kind has its code and its class with the
enable of that class in the filter, and OVERFLOW has none; a disabled class leaves the queue as it is; a GROUP_MOVE coalesces into an unheld one of its group, in place; else a record is appended, or dropped and counted
when the queue is full. -/
def Obligations.OfferedRecords : Prop :=
  ∀ (q : EventQueue) (r : EventRecord),
    let enabled : Prop :=
      match r.kind with
      | .keyDown | .keyUp => q.filter.getLsbD 0 = true
      | .proxOn | .proxOff => q.filter.getLsbD 1 = true
      | .groupTouch | .groupMove | .groupRelease => q.filter.getLsbD 2 = true
      | .calDone | .rebase => q.filter.getLsbD 3 = true
      | .fault => q.filter.getLsbD 4 = true
      | .mode => q.filter.getLsbD 5 = true
      | .cmdDone => q.filter.getLsbD 6 = true
      | .overflow => True
    let code : Byte :=
      match r.kind with
      | .keyDown => 0x01
      | .keyUp => 0x02
      | .proxOn => 0x03
      | .proxOff => 0x04
      | .groupTouch => 0x05
      | .groupMove => 0x06
      | .groupRelease => 0x07
      | .calDone => 0x08
      | .rebase => 0x09
      | .fault => 0x0A
      | .mode => 0x0B
      | .cmdDone => 0x0C
      | .overflow => 0x0D
    let coalesces := r.kind = .groupMove ∧ ∃ e ∈ q.unheld, e.kind = .groupMove ∧ e.index = r.index
    r.kind.code = code ∧ (¬ enabled → q.offer r = q) ∧
    (enabled → coalesces →
      ∃ before after e, q.unheld = before ++ e :: after ∧ e.kind = .groupMove ∧ e.index = r.index ∧
        (∀ x ∈ before, ¬ (x.kind = .groupMove ∧ x.index = r.index)) ∧
        q.offer r = { q with
          records := (if q.hold = .held then q.records.take 1 else []) ++
            before ++ { e with valueA := r.valueA } :: after }) ∧
    (enabled → ¬ coalesces → q.records.length < 16 →
      q.offer r = { q with
        records := q.records ++ [r], pulse := q.pulse || (q.records.isEmpty && q.attnMode == .pulse) }) ∧
    (enabled → ¬ coalesces → 16 ≤ q.records.length → q.offer r = { q with lost := min 255 (q.lost + 1) })

/-! ## Validation -/

/-- Validation (R137, R140): a configuration is valid when none of the fourteen checks has a failing item; otherwise the
detail names the first failing check in number order and its first failing item, as the first value of the check's
range plus the index. -/
def Obligations.ValidationNamesFirstFailure : Prop :=
  ∀ cfg : Configuration,
    let entry (i : Nat) : Nat := (cfg.scan.entries.toList.getD i 0).toNat
    let onChannel (bad : Channel → Prop) (i : Nat) : Prop := ∃ c : Channel, c.val = i ∧ bad c
    let onGroup (bad : GroupId → Prop) (i : Nat) : Prop := ∃ g : GroupId, g.val = i ∧ bad g
    let outside (lo hi v : Nat) : Prop := v < lo ∨ hi < v
    let ch (c : Channel) : ChannelConfig := cfg.channels[c]
    let gl := cfg.globals
    let items : List Prop :=
      [gl.calSamples ≠ 4 ∧ gl.calSamples ≠ 8 ∧ gl.calSamples ≠ 16, outside 1 1023 gl.calSpread.toNat,
        gl.driftInterval = 0, outside 1 15 gl.driftStep.toNat, gl.negLimit = 0, gl.negRounds = 0,
        outside 1 1023 gl.noiseLimit.toNat, gl.hopSet = 0, 3 < gl.hopRetries.toNat, outside 1 15 gl.faultRounds.toNat,
        gl.roundPeriod.toNat < 5, outside 2 200 gl.dozePeriod.toNat,
        outside 64 4094 gl.targetLo.toNat ∨ outside 64 4094 gl.targetHi.toNat ∨ gl.targetHi.toNat ≤ gl.targetLo.toNat]
    let member (g : GroupId) (i : Nat) : Nat := (cfg.groups[g].members.toList.getD i 0).toNat
    let malformed (g : GroupId) : Prop :=
      let d := cfg.groups[g]
      3 < d.kind.toNat ∨
      (d.kind ≠ 0 ∧ (outside (if d.kind = 3 then 3 else 2) 8 d.count.toNat ∨
        (∃ i, i < d.count.toNat ∧ (24 ≤ member g i ∨ ∃ j, j < i ∧ member g j = member g i)) ∨
        (d.kind ≠ 1 ∧ outside 1 64 d.moveThreshold.toNat)))
    let holds (g : GroupId) (c : Channel) : Prop := cfg.groups[g].groupKind ≠ .none ∧ c ∈ cfg.groups[g].memberList
    let checks : List (Nat × (Nat → Prop)) :=
      [(1, fun i => i = 0 ∧ 24 < cfg.scan.count.toNat),
        (2, fun i => i < cfg.scan.count.toNat ∧ 24 ≤ entry i),
        (26, fun i => i < cfg.scan.count.toNat ∧ ∃ j, j < i ∧ entry j = entry i),
        (50, onChannel fun c => cfg.listed c = true ∧ outside 1 (2 ^ 20 - 1) (ch c).electrodes.toNat),
        (74, onChannel fun c => 3 < (ch c).burst.toNat),
        (98, onChannel fun c => outside 64 4095 (ch c).ceiling.toNat ∨ (ch c).ceiling.toNat ≤ (ch c).floor.toNat),
        (122, onChannel fun c => (ch c).touch = 0),
        (146, onChannel fun c => outside 1 (ch c).touch.toNat (ch c).release.toNat),
        (170, onChannel fun c => (ch c).prox ≠ 0 ∧ (ch c).touch.toNat ≤ (ch c).prox.toNat),
        (194, onChannel fun c => outside 1 8 (ch c).downDebounce.toNat ∨ outside 1 8 (ch c).upDebounce.toNat),
        (218, fun i => ∃ p, items[i]? = some p ∧ p),
        (231, onGroup malformed),
        (237, onGroup fun g => ∃ h, h < g ∧ ∃ c, holds g c ∧ holds h c),
        (243, onGroup fun g => ∃ c, holds g c ∧ cfg.listed c = false)]
    (cfg.valid = true ↔ ∀ v ∈ checks, ∀ i, ¬ v.2 i) ∧
    ∀ detail : Nat, validationFailure cfg = some detail ↔
      ∃ (k : Nat) (v : Nat × (Nat → Prop)) (i : Nat), checks[k]? = some v ∧ detail = v.1 + i ∧ v.2 i ∧
        (∀ j, j < i → ¬ v.2 j) ∧ ∀ l, l < k → ∀ u : Nat × (Nat → Prop), checks[l]? = some u → ∀ j, ¬ u.2 j

/-! ## Invariants that every step keeps -/

/-- The event queue stays sound (R105 to R111, R117). -/
def Obligations.QueueStaysSound : Prop :=
  ∀ s t : State, s.queue.Sound → step s = .next t → t.queue.Sound

/-- A key is in OFF exactly when its channel is unlisted, and its near flag fits its state (R38, R39). A key in IDLE,
PROX, DETECT, PRESSED or SUPPRESSED has a baseline not below its channel's floor and below its ceiling (R67). -/
def Obligations.KeysFitList : Prop :=
  (∀ s t : State, s.OffUnlisted → s.NearFits → step s = .next t → t.OffUnlisted ∧ t.NearFits) ∧
  (∀ s t : State, s.Controlled → s.OffUnlisted → s.Measuring → s.BaselinesFit → step s = .next t → t.BaselinesFit)

/-- The live copy and a pending snapshot stay valid (R136, R139). -/
def Obligations.LiveCopyStaysValid : Prop :=
  ∀ s t : State, s.store.Valid → step s = .next t → t.store.Valid

/-- The controller, the engine, the trim unit and the command unit go on agreeing with the mode (R7, R20 to R25, R122,
R151). -/
def Obligations.ControlStaysCoherent : Prop :=
  ∀ s t : State, s.Controlled → step s = .next t → t.Controlled

/-- A measurement works with the live values throughout, and every hop index stays in the live hop set (R8, R11). -/
def Obligations.MeasurementUsesLiveValues : Prop :=
  ∀ s t : State, s.Controlled → s.store.Valid → s.Measuring → s.HopsFit → step s = .next t →
    t.Measuring ∧ t.HopsFit

/-- Every indicator line stays at rest with its target (R172 to R174). -/
def Obligations.LinesFollowTargets : Prop :=
  ∀ s t : State, s.LinesRest → step s = .next t → t.LinesRest

/-- Every group's record goes on fitting its members' keys, and an EXCLUSIVE group has at most one PRESSED member (R81,
R87, R97). -/
def Obligations.GroupsFitKeys : Prop :=
  ∀ s t : State, s.Controlled → s.store.Valid → s.OffUnlisted → s.ModeQuiet → s.GroupsFit → step s = .next t →
    t.GroupsFit

/-- No key is near or touched in STOPPED and TRIM, and the non-wake keys stay quiet in DOZE (R79, R97, R164, R177). -/
def Obligations.QuietModesStayQuiet : Prop :=
  ∀ s t : State, s.Controlled → s.store.Valid → s.OffUnlisted → s.NearFits → s.ModeQuiet → step s = .next t →
    t.ModeQuiet

/-- The mode changes only by the rows of R20's table. -/
def Obligations.ModeChangesByTable : Prop :=
  ∀ (s t : State) (i : Instr), s.Controlled → exec i s = .next t →
    modeRow i s.port.pointer s.scan.mode t.scan.mode

end Statements
end

