-- ==== Sys2Proof/Laws/State.lean ====
section
/-! SUPPORT. One lemma per field per update of the state, so that no later proof unfolds a record update. -/

namespace Sys2Proof.Machine

variable (s : State)

@[simp] theorem State.withPower_power (x : Power) : (s.withPower x).power = x := rfl
@[simp] theorem State.withPower_port (x : Power) : (s.withPower x).port = s.port := rfl
@[simp] theorem State.withPower_store (x : Power) : (s.withPower x).store = s.store := rfl
@[simp] theorem State.withPower_engine (x : Power) : (s.withPower x).engine = s.engine := rfl
@[simp] theorem State.withPower_scan (x : Power) : (s.withPower x).scan = s.scan := rfl
@[simp] theorem State.withPower_keys (x : Power) : (s.withPower x).keys = s.keys := rfl
@[simp] theorem State.withPower_groups (x : Power) : (s.withPower x).groups = s.groups := rfl
@[simp] theorem State.withPower_queue (x : Power) : (s.withPower x).queue = s.queue := rfl
@[simp] theorem State.withPower_command (x : Power) : (s.withPower x).command = s.command := rfl
@[simp] theorem State.withPower_trimRun (x : Power) : (s.withPower x).trimRun = s.trimRun := rfl
@[simp] theorem State.withPower_lines (x : Power) : (s.withPower x).lines = s.lines := rfl
@[simp] theorem State.withPower_freeDraws (x : Power) : (s.withPower x).freeDraws = s.freeDraws := rfl
@[simp] theorem State.withPower_pending (x : Power) : (s.withPower x).pending = s.pending := rfl

@[simp] theorem State.withPort_power (x : HostPort) : (s.withPort x).power = s.power := rfl
@[simp] theorem State.withPort_port (x : HostPort) : (s.withPort x).port = x := rfl
@[simp] theorem State.withPort_store (x : HostPort) : (s.withPort x).store = s.store := rfl
@[simp] theorem State.withPort_engine (x : HostPort) : (s.withPort x).engine = s.engine := rfl
@[simp] theorem State.withPort_scan (x : HostPort) : (s.withPort x).scan = s.scan := rfl
@[simp] theorem State.withPort_keys (x : HostPort) : (s.withPort x).keys = s.keys := rfl
@[simp] theorem State.withPort_groups (x : HostPort) : (s.withPort x).groups = s.groups := rfl
@[simp] theorem State.withPort_queue (x : HostPort) : (s.withPort x).queue = s.queue := rfl
@[simp] theorem State.withPort_command (x : HostPort) : (s.withPort x).command = s.command := rfl
@[simp] theorem State.withPort_trimRun (x : HostPort) : (s.withPort x).trimRun = s.trimRun := rfl
@[simp] theorem State.withPort_lines (x : HostPort) : (s.withPort x).lines = s.lines := rfl
@[simp] theorem State.withPort_freeDraws (x : HostPort) : (s.withPort x).freeDraws = s.freeDraws := rfl
@[simp] theorem State.withPort_pending (x : HostPort) : (s.withPort x).pending = s.pending := rfl

@[simp] theorem State.withStore_power (x : ConfigStore) : (s.withStore x).power = s.power := rfl
@[simp] theorem State.withStore_port (x : ConfigStore) : (s.withStore x).port = s.port := rfl
@[simp] theorem State.withStore_store (x : ConfigStore) : (s.withStore x).store = x := rfl
@[simp] theorem State.withStore_engine (x : ConfigStore) : (s.withStore x).engine = s.engine := rfl
@[simp] theorem State.withStore_scan (x : ConfigStore) : (s.withStore x).scan = s.scan := rfl
@[simp] theorem State.withStore_keys (x : ConfigStore) : (s.withStore x).keys = s.keys := rfl
@[simp] theorem State.withStore_groups (x : ConfigStore) : (s.withStore x).groups = s.groups := rfl
@[simp] theorem State.withStore_queue (x : ConfigStore) : (s.withStore x).queue = s.queue := rfl
@[simp] theorem State.withStore_command (x : ConfigStore) : (s.withStore x).command = s.command := rfl
@[simp] theorem State.withStore_trimRun (x : ConfigStore) : (s.withStore x).trimRun = s.trimRun := rfl
@[simp] theorem State.withStore_lines (x : ConfigStore) : (s.withStore x).lines = s.lines := rfl
@[simp] theorem State.withStore_freeDraws (x : ConfigStore) : (s.withStore x).freeDraws = s.freeDraws := rfl
@[simp] theorem State.withStore_pending (x : ConfigStore) : (s.withStore x).pending = s.pending := rfl

@[simp] theorem State.withEngine_power (x : Engine) : (s.withEngine x).power = s.power := rfl
@[simp] theorem State.withEngine_port (x : Engine) : (s.withEngine x).port = s.port := rfl
@[simp] theorem State.withEngine_store (x : Engine) : (s.withEngine x).store = s.store := rfl
@[simp] theorem State.withEngine_engine (x : Engine) : (s.withEngine x).engine = x := rfl
@[simp] theorem State.withEngine_scan (x : Engine) : (s.withEngine x).scan = s.scan := rfl
@[simp] theorem State.withEngine_keys (x : Engine) : (s.withEngine x).keys = s.keys := rfl
@[simp] theorem State.withEngine_groups (x : Engine) : (s.withEngine x).groups = s.groups := rfl
@[simp] theorem State.withEngine_queue (x : Engine) : (s.withEngine x).queue = s.queue := rfl
@[simp] theorem State.withEngine_command (x : Engine) : (s.withEngine x).command = s.command := rfl
@[simp] theorem State.withEngine_trimRun (x : Engine) : (s.withEngine x).trimRun = s.trimRun := rfl
@[simp] theorem State.withEngine_lines (x : Engine) : (s.withEngine x).lines = s.lines := rfl
@[simp] theorem State.withEngine_freeDraws (x : Engine) : (s.withEngine x).freeDraws = s.freeDraws := rfl
@[simp] theorem State.withEngine_pending (x : Engine) : (s.withEngine x).pending = s.pending := rfl

@[simp] theorem State.withScan_power (x : ScanController) : (s.withScan x).power = s.power := rfl
@[simp] theorem State.withScan_port (x : ScanController) : (s.withScan x).port = s.port := rfl
@[simp] theorem State.withScan_store (x : ScanController) : (s.withScan x).store = s.store := rfl
@[simp] theorem State.withScan_engine (x : ScanController) : (s.withScan x).engine = s.engine := rfl
@[simp] theorem State.withScan_scan (x : ScanController) : (s.withScan x).scan = x := rfl
@[simp] theorem State.withScan_keys (x : ScanController) : (s.withScan x).keys = s.keys := rfl
@[simp] theorem State.withScan_groups (x : ScanController) : (s.withScan x).groups = s.groups := rfl
@[simp] theorem State.withScan_queue (x : ScanController) : (s.withScan x).queue = s.queue := rfl
@[simp] theorem State.withScan_command (x : ScanController) : (s.withScan x).command = s.command := rfl
@[simp] theorem State.withScan_trimRun (x : ScanController) : (s.withScan x).trimRun = s.trimRun := rfl
@[simp] theorem State.withScan_lines (x : ScanController) : (s.withScan x).lines = s.lines := rfl
@[simp] theorem State.withScan_freeDraws (x : ScanController) : (s.withScan x).freeDraws = s.freeDraws := rfl
@[simp] theorem State.withScan_pending (x : ScanController) : (s.withScan x).pending = s.pending := rfl

@[simp] theorem State.withKeys_power (x : Vector KeyRecord 24) : (s.withKeys x).power = s.power := rfl
@[simp] theorem State.withKeys_port (x : Vector KeyRecord 24) : (s.withKeys x).port = s.port := rfl
@[simp] theorem State.withKeys_store (x : Vector KeyRecord 24) : (s.withKeys x).store = s.store := rfl
@[simp] theorem State.withKeys_engine (x : Vector KeyRecord 24) : (s.withKeys x).engine = s.engine := rfl
@[simp] theorem State.withKeys_scan (x : Vector KeyRecord 24) : (s.withKeys x).scan = s.scan := rfl
@[simp] theorem State.withKeys_keys (x : Vector KeyRecord 24) : (s.withKeys x).keys = x := rfl
@[simp] theorem State.withKeys_groups (x : Vector KeyRecord 24) : (s.withKeys x).groups = s.groups := rfl
@[simp] theorem State.withKeys_queue (x : Vector KeyRecord 24) : (s.withKeys x).queue = s.queue := rfl
@[simp] theorem State.withKeys_command (x : Vector KeyRecord 24) : (s.withKeys x).command = s.command := rfl
@[simp] theorem State.withKeys_trimRun (x : Vector KeyRecord 24) : (s.withKeys x).trimRun = s.trimRun := rfl
@[simp] theorem State.withKeys_lines (x : Vector KeyRecord 24) : (s.withKeys x).lines = s.lines := rfl
@[simp] theorem State.withKeys_freeDraws (x : Vector KeyRecord 24) : (s.withKeys x).freeDraws = s.freeDraws := rfl
@[simp] theorem State.withKeys_pending (x : Vector KeyRecord 24) : (s.withKeys x).pending = s.pending := rfl

@[simp] theorem State.withGroups_power (x : Vector GroupRun 6) : (s.withGroups x).power = s.power := rfl
@[simp] theorem State.withGroups_port (x : Vector GroupRun 6) : (s.withGroups x).port = s.port := rfl
@[simp] theorem State.withGroups_store (x : Vector GroupRun 6) : (s.withGroups x).store = s.store := rfl
@[simp] theorem State.withGroups_engine (x : Vector GroupRun 6) : (s.withGroups x).engine = s.engine := rfl
@[simp] theorem State.withGroups_scan (x : Vector GroupRun 6) : (s.withGroups x).scan = s.scan := rfl
@[simp] theorem State.withGroups_keys (x : Vector GroupRun 6) : (s.withGroups x).keys = s.keys := rfl
@[simp] theorem State.withGroups_groups (x : Vector GroupRun 6) : (s.withGroups x).groups = x := rfl
@[simp] theorem State.withGroups_queue (x : Vector GroupRun 6) : (s.withGroups x).queue = s.queue := rfl
@[simp] theorem State.withGroups_command (x : Vector GroupRun 6) : (s.withGroups x).command = s.command := rfl
@[simp] theorem State.withGroups_trimRun (x : Vector GroupRun 6) : (s.withGroups x).trimRun = s.trimRun := rfl
@[simp] theorem State.withGroups_lines (x : Vector GroupRun 6) : (s.withGroups x).lines = s.lines := rfl
@[simp] theorem State.withGroups_freeDraws (x : Vector GroupRun 6) : (s.withGroups x).freeDraws = s.freeDraws := rfl
@[simp] theorem State.withGroups_pending (x : Vector GroupRun 6) : (s.withGroups x).pending = s.pending := rfl

@[simp] theorem State.withQueue_power (x : EventQueue) : (s.withQueue x).power = s.power := rfl
@[simp] theorem State.withQueue_port (x : EventQueue) : (s.withQueue x).port = s.port := rfl
@[simp] theorem State.withQueue_store (x : EventQueue) : (s.withQueue x).store = s.store := rfl
@[simp] theorem State.withQueue_engine (x : EventQueue) : (s.withQueue x).engine = s.engine := rfl
@[simp] theorem State.withQueue_scan (x : EventQueue) : (s.withQueue x).scan = s.scan := rfl
@[simp] theorem State.withQueue_keys (x : EventQueue) : (s.withQueue x).keys = s.keys := rfl
@[simp] theorem State.withQueue_groups (x : EventQueue) : (s.withQueue x).groups = s.groups := rfl
@[simp] theorem State.withQueue_queue (x : EventQueue) : (s.withQueue x).queue = x := rfl
@[simp] theorem State.withQueue_command (x : EventQueue) : (s.withQueue x).command = s.command := rfl
@[simp] theorem State.withQueue_trimRun (x : EventQueue) : (s.withQueue x).trimRun = s.trimRun := rfl
@[simp] theorem State.withQueue_lines (x : EventQueue) : (s.withQueue x).lines = s.lines := rfl
@[simp] theorem State.withQueue_freeDraws (x : EventQueue) : (s.withQueue x).freeDraws = s.freeDraws := rfl
@[simp] theorem State.withQueue_pending (x : EventQueue) : (s.withQueue x).pending = s.pending := rfl

@[simp] theorem State.withCommand_power (x : CommandUnit) : (s.withCommand x).power = s.power := rfl
@[simp] theorem State.withCommand_port (x : CommandUnit) : (s.withCommand x).port = s.port := rfl
@[simp] theorem State.withCommand_store (x : CommandUnit) : (s.withCommand x).store = s.store := rfl
@[simp] theorem State.withCommand_engine (x : CommandUnit) : (s.withCommand x).engine = s.engine := rfl
@[simp] theorem State.withCommand_scan (x : CommandUnit) : (s.withCommand x).scan = s.scan := rfl
@[simp] theorem State.withCommand_keys (x : CommandUnit) : (s.withCommand x).keys = s.keys := rfl
@[simp] theorem State.withCommand_groups (x : CommandUnit) : (s.withCommand x).groups = s.groups := rfl
@[simp] theorem State.withCommand_queue (x : CommandUnit) : (s.withCommand x).queue = s.queue := rfl
@[simp] theorem State.withCommand_command (x : CommandUnit) : (s.withCommand x).command = x := rfl
@[simp] theorem State.withCommand_trimRun (x : CommandUnit) : (s.withCommand x).trimRun = s.trimRun := rfl
@[simp] theorem State.withCommand_lines (x : CommandUnit) : (s.withCommand x).lines = s.lines := rfl
@[simp] theorem State.withCommand_freeDraws (x : CommandUnit) : (s.withCommand x).freeDraws = s.freeDraws := rfl
@[simp] theorem State.withCommand_pending (x : CommandUnit) : (s.withCommand x).pending = s.pending := rfl

@[simp] theorem State.withTrimRun_power (x : Option TrimRun) : (s.withTrimRun x).power = s.power := rfl
@[simp] theorem State.withTrimRun_port (x : Option TrimRun) : (s.withTrimRun x).port = s.port := rfl
@[simp] theorem State.withTrimRun_store (x : Option TrimRun) : (s.withTrimRun x).store = s.store := rfl
@[simp] theorem State.withTrimRun_engine (x : Option TrimRun) : (s.withTrimRun x).engine = s.engine := rfl
@[simp] theorem State.withTrimRun_scan (x : Option TrimRun) : (s.withTrimRun x).scan = s.scan := rfl
@[simp] theorem State.withTrimRun_keys (x : Option TrimRun) : (s.withTrimRun x).keys = s.keys := rfl
@[simp] theorem State.withTrimRun_groups (x : Option TrimRun) : (s.withTrimRun x).groups = s.groups := rfl
@[simp] theorem State.withTrimRun_queue (x : Option TrimRun) : (s.withTrimRun x).queue = s.queue := rfl
@[simp] theorem State.withTrimRun_command (x : Option TrimRun) : (s.withTrimRun x).command = s.command := rfl
@[simp] theorem State.withTrimRun_trimRun (x : Option TrimRun) : (s.withTrimRun x).trimRun = x := rfl
@[simp] theorem State.withTrimRun_lines (x : Option TrimRun) : (s.withTrimRun x).lines = s.lines := rfl
@[simp] theorem State.withTrimRun_freeDraws (x : Option TrimRun) : (s.withTrimRun x).freeDraws = s.freeDraws := rfl
@[simp] theorem State.withTrimRun_pending (x : Option TrimRun) : (s.withTrimRun x).pending = s.pending := rfl

@[simp] theorem State.withLines_power (x : Vector IndicatorLine 8) : (s.withLines x).power = s.power := rfl
@[simp] theorem State.withLines_port (x : Vector IndicatorLine 8) : (s.withLines x).port = s.port := rfl
@[simp] theorem State.withLines_store (x : Vector IndicatorLine 8) : (s.withLines x).store = s.store := rfl
@[simp] theorem State.withLines_engine (x : Vector IndicatorLine 8) : (s.withLines x).engine = s.engine := rfl
@[simp] theorem State.withLines_scan (x : Vector IndicatorLine 8) : (s.withLines x).scan = s.scan := rfl
@[simp] theorem State.withLines_keys (x : Vector IndicatorLine 8) : (s.withLines x).keys = s.keys := rfl
@[simp] theorem State.withLines_groups (x : Vector IndicatorLine 8) : (s.withLines x).groups = s.groups := rfl
@[simp] theorem State.withLines_queue (x : Vector IndicatorLine 8) : (s.withLines x).queue = s.queue := rfl
@[simp] theorem State.withLines_command (x : Vector IndicatorLine 8) : (s.withLines x).command = s.command := rfl
@[simp] theorem State.withLines_trimRun (x : Vector IndicatorLine 8) : (s.withLines x).trimRun = s.trimRun := rfl
@[simp] theorem State.withLines_lines (x : Vector IndicatorLine 8) : (s.withLines x).lines = x := rfl
@[simp] theorem State.withLines_freeDraws (x : Vector IndicatorLine 8) : (s.withLines x).freeDraws = s.freeDraws := rfl
@[simp] theorem State.withLines_pending (x : Vector IndicatorLine 8) : (s.withLines x).pending = s.pending := rfl

@[simp] theorem State.withFreeDraws_power (x : Nat) : (s.withFreeDraws x).power = s.power := rfl
@[simp] theorem State.withFreeDraws_port (x : Nat) : (s.withFreeDraws x).port = s.port := rfl
@[simp] theorem State.withFreeDraws_store (x : Nat) : (s.withFreeDraws x).store = s.store := rfl
@[simp] theorem State.withFreeDraws_engine (x : Nat) : (s.withFreeDraws x).engine = s.engine := rfl
@[simp] theorem State.withFreeDraws_scan (x : Nat) : (s.withFreeDraws x).scan = s.scan := rfl
@[simp] theorem State.withFreeDraws_keys (x : Nat) : (s.withFreeDraws x).keys = s.keys := rfl
@[simp] theorem State.withFreeDraws_groups (x : Nat) : (s.withFreeDraws x).groups = s.groups := rfl
@[simp] theorem State.withFreeDraws_queue (x : Nat) : (s.withFreeDraws x).queue = s.queue := rfl
@[simp] theorem State.withFreeDraws_command (x : Nat) : (s.withFreeDraws x).command = s.command := rfl
@[simp] theorem State.withFreeDraws_trimRun (x : Nat) : (s.withFreeDraws x).trimRun = s.trimRun := rfl
@[simp] theorem State.withFreeDraws_lines (x : Nat) : (s.withFreeDraws x).lines = s.lines := rfl
@[simp] theorem State.withFreeDraws_freeDraws (x : Nat) : (s.withFreeDraws x).freeDraws = x := rfl
@[simp] theorem State.withFreeDraws_pending (x : Nat) : (s.withFreeDraws x).pending = s.pending := rfl

@[simp] theorem State.withPending_power (x : List Instr) : (s.withPending x).power = s.power := rfl
@[simp] theorem State.withPending_port (x : List Instr) : (s.withPending x).port = s.port := rfl
@[simp] theorem State.withPending_store (x : List Instr) : (s.withPending x).store = s.store := rfl
@[simp] theorem State.withPending_engine (x : List Instr) : (s.withPending x).engine = s.engine := rfl
@[simp] theorem State.withPending_scan (x : List Instr) : (s.withPending x).scan = s.scan := rfl
@[simp] theorem State.withPending_keys (x : List Instr) : (s.withPending x).keys = s.keys := rfl
@[simp] theorem State.withPending_groups (x : List Instr) : (s.withPending x).groups = s.groups := rfl
@[simp] theorem State.withPending_queue (x : List Instr) : (s.withPending x).queue = s.queue := rfl
@[simp] theorem State.withPending_command (x : List Instr) : (s.withPending x).command = s.command := rfl
@[simp] theorem State.withPending_trimRun (x : List Instr) : (s.withPending x).trimRun = s.trimRun := rfl
@[simp] theorem State.withPending_lines (x : List Instr) : (s.withPending x).lines = s.lines := rfl
@[simp] theorem State.withPending_freeDraws (x : List Instr) : (s.withPending x).freeDraws = s.freeDraws := rfl
@[simp] theorem State.withPending_pending (x : List Instr) : (s.withPending x).pending = x := rfl

@[simp] theorem State.withPower_withPower (x y : Power) : (s.withPower x).withPower y = s.withPower y := rfl
@[simp] theorem State.withPort_withPort (x y : HostPort) : (s.withPort x).withPort y = s.withPort y := rfl
@[simp] theorem State.withStore_withStore (x y : ConfigStore) : (s.withStore x).withStore y = s.withStore y := rfl
@[simp] theorem State.withEngine_withEngine (x y : Engine) : (s.withEngine x).withEngine y = s.withEngine y := rfl
@[simp] theorem State.withScan_withScan (x y : ScanController) : (s.withScan x).withScan y = s.withScan y := rfl
@[simp] theorem State.withKeys_withKeys (x y : Vector KeyRecord 24) : (s.withKeys x).withKeys y = s.withKeys y := rfl
@[simp] theorem State.withGroups_withGroups (x y : Vector GroupRun 6) : (s.withGroups x).withGroups y = s.withGroups y := rfl
@[simp] theorem State.withQueue_withQueue (x y : EventQueue) : (s.withQueue x).withQueue y = s.withQueue y := rfl
@[simp] theorem State.withCommand_withCommand (x y : CommandUnit) : (s.withCommand x).withCommand y = s.withCommand y := rfl
@[simp] theorem State.withTrimRun_withTrimRun (x y : Option TrimRun) : (s.withTrimRun x).withTrimRun y = s.withTrimRun y := rfl
@[simp] theorem State.withLines_withLines (x y : Vector IndicatorLine 8) : (s.withLines x).withLines y = s.withLines y := rfl
@[simp] theorem State.withFreeDraws_withFreeDraws (x y : Nat) : (s.withFreeDraws x).withFreeDraws y = s.withFreeDraws y := rfl
@[simp] theorem State.withPending_withPending (x y : List Instr) : (s.withPending x).withPending y = s.withPending y := rfl

@[simp] theorem State.withPower_self : s.withPower s.power = s := rfl
@[simp] theorem State.withPort_self : s.withPort s.port = s := rfl
@[simp] theorem State.withStore_self : s.withStore s.store = s := rfl
@[simp] theorem State.withEngine_self : s.withEngine s.engine = s := rfl
@[simp] theorem State.withScan_self : s.withScan s.scan = s := rfl
@[simp] theorem State.withKeys_self : s.withKeys s.keys = s := rfl
@[simp] theorem State.withGroups_self : s.withGroups s.groups = s := rfl
@[simp] theorem State.withQueue_self : s.withQueue s.queue = s := rfl
@[simp] theorem State.withCommand_self : s.withCommand s.command = s := rfl
@[simp] theorem State.withTrimRun_self : s.withTrimRun s.trimRun = s := rfl
@[simp] theorem State.withLines_self : s.withLines s.lines = s := rfl
@[simp] theorem State.withFreeDraws_self : s.withFreeDraws s.freeDraws = s := rfl
@[simp] theorem State.withPending_self : s.withPending s.pending = s := rfl

/-- Two states with the same fields are the same state. -/
theorem State.eq_of_fields {s t : State}
    (h_power : s.power = t.power)
    (h_port : s.port = t.port)
    (h_store : s.store = t.store)
    (h_engine : s.engine = t.engine)
    (h_scan : s.scan = t.scan)
    (h_keys : s.keys = t.keys)
    (h_groups : s.groups = t.groups)
    (h_queue : s.queue = t.queue)
    (h_command : s.command = t.command)
    (h_trimRun : s.trimRun = t.trimRun)
    (h_lines : s.lines = t.lines)
    (h_freeDraws : s.freeDraws = t.freeDraws)
    (h_pending : s.pending = t.pending) : s = t := by
  cases s; cases t; simp_all

end Sys2Proof.Machine
end

