-- ==== Sys2Proof/Laws/Frame.lean ====
section
/-! SUPPORT. The frame of every shared operation: the fields of the state it does not touch. -/

namespace Sys2Proof.Machine

variable (s : State)

@[simp] theorem State.driveFrom_frame (b : State) :
    (State.driveFrom b s).power = s.power ∧ (State.driveFrom b s).port = s.port ∧
      (State.driveFrom b s).store = s.store ∧ (State.driveFrom b s).engine = s.engine ∧
      (State.driveFrom b s).scan = s.scan ∧ (State.driveFrom b s).keys = s.keys ∧
      (State.driveFrom b s).groups = s.groups ∧ (State.driveFrom b s).queue = s.queue ∧
      (State.driveFrom b s).command = s.command ∧ (State.driveFrom b s).trimRun = s.trimRun ∧
      (State.driveFrom b s).freeDraws = s.freeDraws ∧ (State.driveFrom b s).pending = s.pending := by
  simp [State.driveFrom]

@[simp] theorem State.offer_frame (r : EventRecord) :
    (s.offer r).power = s.power ∧ (s.offer r).port = s.port ∧ (s.offer r).store = s.store ∧
      (s.offer r).engine = s.engine ∧ (s.offer r).scan = s.scan ∧ (s.offer r).keys = s.keys ∧
      (s.offer r).groups = s.groups ∧ (s.offer r).command = s.command ∧ (s.offer r).trimRun = s.trimRun ∧
      (s.offer r).lines = s.lines ∧ (s.offer r).freeDraws = s.freeDraws ∧ (s.offer r).pending = s.pending := by
  simp [State.offer]

@[simp] theorem State.offerAll_frame (rs : List EventRecord) :
    (s.offerAll rs).power = s.power ∧ (s.offerAll rs).port = s.port ∧ (s.offerAll rs).store = s.store ∧
      (s.offerAll rs).engine = s.engine ∧ (s.offerAll rs).scan = s.scan ∧ (s.offerAll rs).keys = s.keys ∧
      (s.offerAll rs).groups = s.groups ∧ (s.offerAll rs).command = s.command ∧
      (s.offerAll rs).trimRun = s.trimRun ∧ (s.offerAll rs).lines = s.lines ∧
      (s.offerAll rs).freeDraws = s.freeDraws ∧ (s.offerAll rs).pending = s.pending := by
  simp [State.offerAll]

@[simp] theorem State.changeMode_frame (m : Mode) (c : ModeCause) (b : Byte) :
    (s.changeMode m c b).power = s.power ∧ (s.changeMode m c b).port = s.port ∧
      (s.changeMode m c b).store = s.store ∧ (s.changeMode m c b).engine = s.engine ∧
      (s.changeMode m c b).keys = s.keys ∧ (s.changeMode m c b).groups = s.groups ∧
      (s.changeMode m c b).command = s.command ∧ (s.changeMode m c b).trimRun = s.trimRun ∧
      (s.changeMode m c b).lines = s.lines ∧ (s.changeMode m c b).freeDraws = s.freeDraws ∧
      (s.changeMode m c b).pending = s.pending := by
  simp [State.changeMode]

@[simp] theorem State.clearInactivity_frame :
    (s.clearInactivity).power = s.power ∧ (s.clearInactivity).port = s.port ∧
      (s.clearInactivity).store = s.store ∧ (s.clearInactivity).engine = s.engine ∧
      (s.clearInactivity).keys = s.keys ∧ (s.clearInactivity).groups = s.groups ∧
      (s.clearInactivity).queue = s.queue ∧ (s.clearInactivity).command = s.command ∧
      (s.clearInactivity).trimRun = s.trimRun ∧ (s.clearInactivity).lines = s.lines ∧
      (s.clearInactivity).freeDraws = s.freeDraws ∧ (s.clearInactivity).pending = s.pending := by
  simp [State.clearInactivity]

@[simp] theorem State.endCommand_frame (code : Byte) (r : ResultCode) (d : Byte) :
    (s.endCommand code r d).power = s.power ∧ (s.endCommand code r d).port = s.port ∧
      (s.endCommand code r d).store = s.store ∧ (s.endCommand code r d).engine = s.engine ∧
      (s.endCommand code r d).scan = s.scan ∧ (s.endCommand code r d).keys = s.keys ∧
      (s.endCommand code r d).groups = s.groups ∧ (s.endCommand code r d).trimRun = s.trimRun ∧
      (s.endCommand code r d).lines = s.lines ∧ (s.endCommand code r d).freeDraws = s.freeDraws ∧
      (s.endCommand code r d).pending = s.pending := by
  unfold State.endCommand; (repeat' split) <;> simp

@[simp] theorem State.enterBusy_frame (n : CommandName) (w : Work) :
    (s.enterBusy n w).power = s.power ∧ (s.enterBusy n w).port = s.port ∧ (s.enterBusy n w).store = s.store ∧
      (s.enterBusy n w).engine = s.engine ∧ (s.enterBusy n w).scan = s.scan ∧ (s.enterBusy n w).keys = s.keys ∧
      (s.enterBusy n w).groups = s.groups ∧ (s.enterBusy n w).queue = s.queue ∧
      (s.enterBusy n w).trimRun = s.trimRun ∧ (s.enterBusy n w).lines = s.lines ∧
      (s.enterBusy n w).freeDraws = s.freeDraws ∧ (s.enterBusy n w).pending = s.pending := by
  simp [State.enterBusy]

@[simp] theorem State.leaveBusy_frame :
    (s.leaveBusy).power = s.power ∧ (s.leaveBusy).port = s.port ∧ (s.leaveBusy).store = s.store ∧
      (s.leaveBusy).engine = s.engine ∧ (s.leaveBusy).scan = s.scan ∧ (s.leaveBusy).keys = s.keys ∧
      (s.leaveBusy).groups = s.groups ∧ (s.leaveBusy).queue = s.queue ∧ (s.leaveBusy).trimRun = s.trimRun ∧
      (s.leaveBusy).lines = s.lines ∧ (s.leaveBusy).freeDraws = s.freeDraws ∧
      (s.leaveBusy).pending = s.pending := by
  simp [State.leaveBusy]

@[simp] theorem State.request_frame (q : Requester) (c : Channel) (t : BitVec 6) :
    (s.request q c t).power = s.power ∧ (s.request q c t).port = s.port ∧ (s.request q c t).store = s.store ∧
      (s.request q c t).scan = s.scan ∧ (s.request q c t).keys = s.keys ∧ (s.request q c t).groups = s.groups ∧
      (s.request q c t).queue = s.queue ∧ (s.request q c t).command = s.command ∧
      (s.request q c t).trimRun = s.trimRun ∧ (s.request q c t).lines = s.lines ∧
      (s.request q c t).freeDraws = s.freeDraws ∧ (s.request q c t).pending = s.pending := by
  simp [State.request]

@[simp] theorem State.requestScan_frame (c : Channel) :
    (s.requestScan c).power = s.power ∧ (s.requestScan c).port = s.port ∧ (s.requestScan c).store = s.store ∧
      (s.requestScan c).scan = s.scan ∧ (s.requestScan c).keys = s.keys ∧ (s.requestScan c).groups = s.groups ∧
      (s.requestScan c).queue = s.queue ∧ (s.requestScan c).command = s.command ∧
      (s.requestScan c).trimRun = s.trimRun ∧ (s.requestScan c).lines = s.lines ∧
      (s.requestScan c).freeDraws = s.freeDraws ∧ (s.requestScan c).pending = s.pending := by
  simp [State.requestScan]

@[simp] theorem State.abandonMeasurement_frame :
    (s.abandonMeasurement).power = s.power ∧ (s.abandonMeasurement).port = s.port ∧
      (s.abandonMeasurement).store = s.store ∧ (s.abandonMeasurement).scan = s.scan ∧
      (s.abandonMeasurement).keys = s.keys ∧ (s.abandonMeasurement).groups = s.groups ∧
      (s.abandonMeasurement).queue = s.queue ∧ (s.abandonMeasurement).command = s.command ∧
      (s.abandonMeasurement).trimRun = s.trimRun ∧ (s.abandonMeasurement).lines = s.lines ∧
      (s.abandonMeasurement).freeDraws = s.freeDraws ∧ (s.abandonMeasurement).pending = s.pending := by
  simp [State.abandonMeasurement]

@[simp] theorem State.abandonRound_frame :
    (s.abandonRound).power = s.power ∧ (s.abandonRound).port = s.port ∧ (s.abandonRound).store = s.store ∧
      (s.abandonRound).keys = s.keys ∧ (s.abandonRound).groups = s.groups ∧ (s.abandonRound).queue = s.queue ∧
      (s.abandonRound).command = s.command ∧ (s.abandonRound).trimRun = s.trimRun ∧
      (s.abandonRound).lines = s.lines ∧ (s.abandonRound).freeDraws = s.freeDraws ∧
      (s.abandonRound).pending = s.pending := by
  simp [State.abandonRound]

@[simp] theorem State.pointAfter_frame (a : Byte) (d : Direction) :
    (s.pointAfter a d).power = s.power ∧ (s.pointAfter a d).store = s.store ∧ (s.pointAfter a d).engine = s.engine ∧
      (s.pointAfter a d).scan = s.scan ∧ (s.pointAfter a d).keys = s.keys ∧ (s.pointAfter a d).groups = s.groups ∧
      (s.pointAfter a d).queue = s.queue ∧ (s.pointAfter a d).command = s.command ∧
      (s.pointAfter a d).trimRun = s.trimRun ∧ (s.pointAfter a d).lines = s.lines ∧
      (s.pointAfter a d).freeDraws = s.freeDraws ∧ (s.pointAfter a d).pending = s.pending := by
  simp [State.pointAfter]

@[simp] theorem State.leave_frame (d : Direction) (n : Byte) :
    (s.leave d n).power = s.power ∧ (s.leave d n).store = s.store ∧ (s.leave d n).engine = s.engine ∧
      (s.leave d n).scan = s.scan ∧ (s.leave d n).keys = s.keys ∧ (s.leave d n).groups = s.groups ∧
      (s.leave d n).queue = s.queue ∧ (s.leave d n).command = s.command ∧
      (s.leave d n).trimRun = s.trimRun ∧ (s.leave d n).lines = s.lines ∧
      (s.leave d n).freeDraws = s.freeDraws ∧ (s.leave d n).pending = s.pending := by
  simp [State.leave]

@[simp] theorem State.evaluate_frame (rs : List MeasResult) :
    (s.evaluate rs).power = s.power ∧ (s.evaluate rs).port = s.port ∧ (s.evaluate rs).store = s.store ∧
      (s.evaluate rs).engine = s.engine ∧ (s.evaluate rs).scan = s.scan ∧ (s.evaluate rs).command = s.command ∧
      (s.evaluate rs).trimRun = s.trimRun ∧ (s.evaluate rs).lines = s.lines ∧
      (s.evaluate rs).freeDraws = s.freeDraws ∧ (s.evaluate rs).pending = s.pending := by
  simp [State.evaluate]

@[simp] theorem State.forceKeys_frame (cs : List Channel) (move : Channel → KeyRecord → KeyOutcome) :
    (s.forceKeys cs move).power = s.power ∧ (s.forceKeys cs move).port = s.port ∧
      (s.forceKeys cs move).store = s.store ∧ (s.forceKeys cs move).engine = s.engine ∧
      (s.forceKeys cs move).scan = s.scan ∧ (s.forceKeys cs move).groups = s.groups ∧
      (s.forceKeys cs move).command = s.command ∧ (s.forceKeys cs move).trimRun = s.trimRun ∧
      (s.forceKeys cs move).lines = s.lines ∧ (s.forceKeys cs move).freeDraws = s.freeDraws ∧
      (s.forceKeys cs move).pending = s.pending := by
  simp [State.forceKeys]

@[simp] theorem State.followGroups_frame (cause : ReleaseCause) :
    (s.followGroups cause).power = s.power ∧ (s.followGroups cause).port = s.port ∧
      (s.followGroups cause).store = s.store ∧ (s.followGroups cause).engine = s.engine ∧
      (s.followGroups cause).scan = s.scan ∧ (s.followGroups cause).keys = s.keys ∧
      (s.followGroups cause).command = s.command ∧ (s.followGroups cause).trimRun = s.trimRun ∧
      (s.followGroups cause).lines = s.lines ∧ (s.followGroups cause).freeDraws = s.freeDraws ∧
      (s.followGroups cause).pending = s.pending := by
  simp [State.followGroups]

@[simp] theorem State.releaseForStop_frame :
    (s.releaseForStop).power = s.power ∧ (s.releaseForStop).port = s.port ∧
      (s.releaseForStop).store = s.store ∧ (s.releaseForStop).engine = s.engine ∧
      (s.releaseForStop).scan = s.scan ∧ (s.releaseForStop).command = s.command ∧
      (s.releaseForStop).trimRun = s.trimRun ∧ (s.releaseForStop).lines = s.lines ∧
      (s.releaseForStop).freeDraws = s.freeDraws ∧ (s.releaseForStop).pending = s.pending := by
  simp [State.releaseForStop]

@[simp] theorem State.releaseForDoze_frame :
    (s.releaseForDoze).power = s.power ∧ (s.releaseForDoze).port = s.port ∧
      (s.releaseForDoze).store = s.store ∧ (s.releaseForDoze).engine = s.engine ∧
      (s.releaseForDoze).scan = s.scan ∧ (s.releaseForDoze).command = s.command ∧
      (s.releaseForDoze).trimRun = s.trimRun ∧ (s.releaseForDoze).lines = s.lines ∧
      (s.releaseForDoze).freeDraws = s.freeDraws ∧ (s.releaseForDoze).pending = s.pending := by
  simp [State.releaseForDoze]

@[simp] theorem State.sendToCal_frame (cs : List Channel) :
    (s.sendToCal cs).power = s.power ∧ (s.sendToCal cs).port = s.port ∧ (s.sendToCal cs).store = s.store ∧
      (s.sendToCal cs).engine = s.engine ∧ (s.sendToCal cs).scan = s.scan ∧
      (s.sendToCal cs).command = s.command ∧ (s.sendToCal cs).trimRun = s.trimRun ∧
      (s.sendToCal cs).lines = s.lines ∧ (s.sendToCal cs).freeDraws = s.freeDraws ∧
      (s.sendToCal cs).pending = s.pending := by
  simp [State.sendToCal]

@[simp] theorem State.installCopy_frame (new : Configuration) :
    (s.installCopy new).power = s.power ∧ (s.installCopy new).port = s.port ∧
      (s.installCopy new).scan = s.scan ∧ (s.installCopy new).command = s.command ∧
      (s.installCopy new).trimRun = s.trimRun ∧ (s.installCopy new).lines = s.lines ∧
      (s.installCopy new).freeDraws = s.freeDraws ∧ (s.installCopy new).pending = s.pending := by
  simp [State.installCopy]

@[simp] theorem State.wakeByInstall_frame :
    (s.wakeByInstall).power = s.power ∧ (s.wakeByInstall).port = s.port ∧ (s.wakeByInstall).store = s.store ∧
      (s.wakeByInstall).engine = s.engine ∧ (s.wakeByInstall).keys = s.keys ∧
      (s.wakeByInstall).groups = s.groups ∧ (s.wakeByInstall).command = s.command ∧
      (s.wakeByInstall).trimRun = s.trimRun ∧ (s.wakeByInstall).lines = s.lines ∧
      (s.wakeByInstall).freeDraws = s.freeDraws ∧ (s.wakeByInstall).pending = s.pending := by
  unfold State.wakeByInstall; (repeat' split) <;> simp

@[simp] theorem State.install_frame (new : Configuration) :
    (s.install new).power = s.power ∧ (s.install new).port = s.port ∧ (s.install new).trimRun = s.trimRun ∧
      (s.install new).lines = s.lines ∧ (s.install new).freeDraws = s.freeDraws ∧
      (s.install new).pending = s.pending := by
  simp [State.install]

@[simp] theorem State.countRound_frame :
    (s.countRound).power = s.power ∧ (s.countRound).port = s.port ∧ (s.countRound).store = s.store ∧
      (s.countRound).engine = s.engine ∧ (s.countRound).keys = s.keys ∧ (s.countRound).groups = s.groups ∧
      (s.countRound).queue = s.queue ∧ (s.countRound).command = s.command ∧
      (s.countRound).trimRun = s.trimRun ∧ (s.countRound).lines = s.lines ∧
      (s.countRound).freeDraws = s.freeDraws ∧ (s.countRound).pending = s.pending := by
  simp [State.countRound]

@[simp] theorem State.advanceRecal_frame :
    (s.advanceRecal).power = s.power ∧ (s.advanceRecal).port = s.port ∧ (s.advanceRecal).store = s.store ∧
      (s.advanceRecal).engine = s.engine ∧ (s.advanceRecal).scan = s.scan ∧ (s.advanceRecal).keys = s.keys ∧
      (s.advanceRecal).groups = s.groups ∧ (s.advanceRecal).trimRun = s.trimRun ∧
      (s.advanceRecal).lines = s.lines ∧ (s.advanceRecal).freeDraws = s.freeDraws ∧
      (s.advanceRecal).pending = s.pending := by
  unfold State.advanceRecal; (repeat' (split <;> try dsimp only)) <;> simp

@[simp] theorem State.setDozeTimer_frame :
    (s.setDozeTimer).power = s.power ∧ (s.setDozeTimer).port = s.port ∧ (s.setDozeTimer).store = s.store ∧
      (s.setDozeTimer).engine = s.engine ∧ (s.setDozeTimer).keys = s.keys ∧
      (s.setDozeTimer).groups = s.groups ∧ (s.setDozeTimer).queue = s.queue ∧
      (s.setDozeTimer).command = s.command ∧ (s.setDozeTimer).trimRun = s.trimRun ∧
      (s.setDozeTimer).lines = s.lines ∧ (s.setDozeTimer).freeDraws = s.freeDraws ∧
      (s.setDozeTimer).pending = s.pending := by
  simp [State.setDozeTimer]

@[simp] theorem State.countInactivity_frame :
    (s.countInactivity).power = s.power ∧ (s.countInactivity).port = s.port ∧
      (s.countInactivity).store = s.store ∧ (s.countInactivity).engine = s.engine ∧
      (s.countInactivity).keys = s.keys ∧ (s.countInactivity).groups = s.groups ∧
      (s.countInactivity).queue = s.queue ∧ (s.countInactivity).command = s.command ∧
      (s.countInactivity).trimRun = s.trimRun ∧ (s.countInactivity).lines = s.lines ∧
      (s.countInactivity).freeDraws = s.freeDraws ∧ (s.countInactivity).pending = s.pending := by
  simp [State.countInactivity]

@[simp] theorem State.inactivityCheck_frame :
    (s.inactivityCheck).power = s.power ∧ (s.inactivityCheck).port = s.port ∧
      (s.inactivityCheck).store = s.store ∧ (s.inactivityCheck).engine = s.engine ∧
      (s.inactivityCheck).keys = s.keys ∧ (s.inactivityCheck).groups = s.groups ∧
      (s.inactivityCheck).command = s.command ∧ (s.inactivityCheck).trimRun = s.trimRun ∧
      (s.inactivityCheck).lines = s.lines ∧ (s.inactivityCheck).freeDraws = s.freeDraws ∧
      (s.inactivityCheck).pending = s.pending := by
  unfold State.inactivityCheck; dsimp only; (repeat' split) <;> simp

@[simp] theorem State.wakeKeyCheck_frame :
    (s.wakeKeyCheck).power = s.power ∧ (s.wakeKeyCheck).port = s.port ∧ (s.wakeKeyCheck).store = s.store ∧
      (s.wakeKeyCheck).engine = s.engine ∧ (s.wakeKeyCheck).keys = s.keys ∧
      (s.wakeKeyCheck).groups = s.groups ∧ (s.wakeKeyCheck).command = s.command ∧
      (s.wakeKeyCheck).trimRun = s.trimRun ∧ (s.wakeKeyCheck).lines = s.lines ∧
      (s.wakeKeyCheck).freeDraws = s.freeDraws ∧ (s.wakeKeyCheck).pending = s.pending := by
  unfold State.wakeKeyCheck; (repeat' split) <;> simp

@[simp] theorem State.finishRound_frame (k : RoundKind) (rs : List MeasResult) :
    (s.finishRound k rs).power = s.power ∧ (s.finishRound k rs).port = s.port ∧
      (s.finishRound k rs).store = s.store ∧ (s.finishRound k rs).engine = s.engine ∧
      (s.finishRound k rs).trimRun = s.trimRun ∧ (s.finishRound k rs).lines = s.lines ∧
      (s.finishRound k rs).freeDraws = s.freeDraws ∧ (s.finishRound k rs).pending = s.pending := by
  unfold State.finishRound; cases k <;> simp

@[simp] theorem State.installPending_frame :
    (s.installPending).power = s.power ∧ (s.installPending).port = s.port ∧
      (s.installPending).trimRun = s.trimRun ∧ (s.installPending).lines = s.lines ∧
      (s.installPending).freeDraws = s.freeDraws ∧ (s.installPending).pending = s.pending := by
  unfold State.installPending; (repeat' split) <;> simp

@[simp] theorem State.launchRound_frame :
    (s.launchRound).power = s.power ∧ (s.launchRound).port = s.port ∧ (s.launchRound).store = s.store ∧
      (s.launchRound).trimRun = s.trimRun ∧ (s.launchRound).lines = s.lines ∧
      (s.launchRound).freeDraws = s.freeDraws ∧ (s.launchRound).pending = s.pending := by
  unfold State.launchRound; dsimp only; (repeat' split) <;> simp

@[simp] theorem State.startRound_frame :
    (s.startRound).power = s.power ∧ (s.startRound).port = s.port ∧ (s.startRound).trimRun = s.trimRun ∧
      (s.startRound).lines = s.lines ∧ (s.startRound).freeDraws = s.freeDraws ∧
      (s.startRound).pending = s.pending := by
  simp [State.startRound]

@[simp] theorem State.completeRound_frame (k : RoundKind) (rs : List MeasResult) :
    (s.completeRound k rs).power = s.power ∧ (s.completeRound k rs).port = s.port ∧
      (s.completeRound k rs).trimRun = s.trimRun ∧ (s.completeRound k rs).lines = s.lines ∧
      (s.completeRound k rs).freeDraws = s.freeDraws ∧ (s.completeRound k rs).pending = s.pending := by
  unfold State.completeRound; dsimp only; (repeat' split) <;> simp

@[simp] theorem State.receiveScan_frame (r : MeasResult) :
    (s.receiveScan r).power = s.power ∧ (s.receiveScan r).port = s.port ∧
      (s.receiveScan r).trimRun = s.trimRun ∧ (s.receiveScan r).lines = s.lines ∧
      (s.receiveScan r).freeDraws = s.freeDraws ∧ (s.receiveScan r).pending = s.pending := by
  unfold State.receiveScan; (repeat' (split <;> try dsimp only)) <;> simp

@[simp] theorem State.expireRoundTimer_frame :
    (s.expireRoundTimer).power = s.power ∧ (s.expireRoundTimer).port = s.port ∧
      (s.expireRoundTimer).trimRun = s.trimRun ∧ (s.expireRoundTimer).lines = s.lines ∧
      (s.expireRoundTimer).freeDraws = s.freeDraws ∧ (s.expireRoundTimer).pending = s.pending := by
  unfold State.expireRoundTimer; (repeat' split) <;> simp

@[simp] theorem State.requestTrim_frame (t : TrimRun) :
    (s.requestTrim t).power = s.power ∧ (s.requestTrim t).port = s.port ∧ (s.requestTrim t).store = s.store ∧
      (s.requestTrim t).scan = s.scan ∧ (s.requestTrim t).keys = s.keys ∧ (s.requestTrim t).groups = s.groups ∧
      (s.requestTrim t).queue = s.queue ∧ (s.requestTrim t).command = s.command ∧
      (s.requestTrim t).lines = s.lines ∧ (s.requestTrim t).freeDraws = s.freeDraws ∧
      (s.requestTrim t).pending = s.pending := by
  unfold State.requestTrim; (repeat' split) <;> simp

@[simp] theorem State.completeTrim_frame (t : TrimRun) :
    (s.completeTrim t).power = s.power ∧ (s.completeTrim t).port = s.port ∧
      (s.completeTrim t).engine = s.engine ∧ (s.completeTrim t).groups = s.groups ∧
      (s.completeTrim t).lines = s.lines ∧ (s.completeTrim t).freeDraws = s.freeDraws ∧
      (s.completeTrim t).pending = s.pending := by
  simp [State.completeTrim]

@[simp] theorem State.receiveTrim_frame (r : MeasResult) :
    (s.receiveTrim r).power = s.power ∧ (s.receiveTrim r).port = s.port ∧ (s.receiveTrim r).groups = s.groups ∧
      (s.receiveTrim r).lines = s.lines ∧ (s.receiveTrim r).freeDraws = s.freeDraws ∧
      (s.receiveTrim r).pending = s.pending := by
  unfold State.receiveTrim; (repeat' split) <;> simp

@[simp] theorem State.deliver_frame (q : Requester) (r : MeasResult) :
    (s.deliver q r).power = s.power ∧ (s.deliver q r).port = s.port ∧ (s.deliver q r).lines = s.lines ∧
      (s.deliver q r).freeDraws = s.freeDraws ∧ (s.deliver q r).pending = s.pending := by
  cases q <;> simp [State.deliver]

@[simp] theorem State.retry_frame (m : Measurement) :
    (s.retry m).power = s.power ∧ (s.retry m).port = s.port ∧ (s.retry m).store = s.store ∧
      (s.retry m).scan = s.scan ∧ (s.retry m).keys = s.keys ∧ (s.retry m).groups = s.groups ∧
      (s.retry m).queue = s.queue ∧ (s.retry m).command = s.command ∧ (s.retry m).trimRun = s.trimRun ∧
      (s.retry m).lines = s.lines ∧ (s.retry m).freeDraws = s.freeDraws ∧ (s.retry m).pending = s.pending := by
  simp [State.retry]

@[simp] theorem State.endBurst_frame (m : Measurement) (ns : List Nat) :
    (s.endBurst m ns).power = s.power ∧ (s.endBurst m ns).port = s.port ∧ (s.endBurst m ns).lines = s.lines ∧
      (s.endBurst m ns).freeDraws = s.freeDraws ∧ (s.endBurst m ns).pending = s.pending := by
  unfold State.endBurst; (repeat' split) <;> simp

@[simp] theorem State.endConversion_frame (n : Nat) :
    (s.endConversion n).power = s.power ∧ (s.endConversion n).port = s.port ∧
      (s.endConversion n).lines = s.lines ∧ (s.endConversion n).freeDraws = s.freeDraws ∧
      (s.endConversion n).pending = s.pending := by
  unfold State.endConversion; (repeat' (split <;> try dsimp only)) <;> simp

@[simp] theorem State.refuse_frame (n : CommandName) (r : ResultCode) :
    (s.refuse n r).power = s.power ∧ (s.refuse n r).port = s.port ∧ (s.refuse n r).store = s.store ∧
      (s.refuse n r).engine = s.engine ∧ (s.refuse n r).scan = s.scan ∧ (s.refuse n r).keys = s.keys ∧
      (s.refuse n r).groups = s.groups ∧ (s.refuse n r).trimRun = s.trimRun ∧ (s.refuse n r).lines = s.lines ∧
      (s.refuse n r).freeDraws = s.freeDraws ∧ (s.refuse n r).pending = s.pending := by
  simp [State.refuse]

@[simp] theorem State.stopTimer_frame :
    (s.stopTimer).power = s.power ∧ (s.stopTimer).port = s.port ∧ (s.stopTimer).store = s.store ∧
      (s.stopTimer).engine = s.engine ∧ (s.stopTimer).keys = s.keys ∧ (s.stopTimer).groups = s.groups ∧
      (s.stopTimer).queue = s.queue ∧ (s.stopTimer).command = s.command ∧ (s.stopTimer).trimRun = s.trimRun ∧
      (s.stopTimer).lines = s.lines ∧ (s.stopTimer).freeDraws = s.freeDraws ∧
      (s.stopTimer).pending = s.pending := by
  simp [State.stopTimer]

@[simp] theorem State.leaveDoze_frame :
    (s.leaveDoze).power = s.power ∧ (s.leaveDoze).port = s.port ∧ (s.leaveDoze).trimRun = s.trimRun ∧
      (s.leaveDoze).lines = s.lines ∧ (s.leaveDoze).freeDraws = s.freeDraws ∧
      (s.leaveDoze).pending = s.pending := by
  unfold State.leaveDoze; (repeat' split) <;> simp

@[simp] theorem State.takeStart_frame :
    (s.takeStart).power = s.power ∧ (s.takeStart).port = s.port ∧ (s.takeStart).trimRun = s.trimRun ∧
      (s.takeStart).lines = s.lines ∧ (s.takeStart).freeDraws = s.freeDraws ∧
      (s.takeStart).pending = s.pending := by
  unfold State.takeStart; (repeat' split) <;> simp

@[simp] theorem State.takeStop_frame :
    (s.takeStop).power = s.power ∧ (s.takeStop).port = s.port ∧ (s.takeStop).store = s.store ∧
      (s.takeStop).trimRun = s.trimRun ∧ (s.takeStop).lines = s.lines ∧ (s.takeStop).freeDraws = s.freeDraws ∧
      (s.takeStop).pending = s.pending := by
  unfold State.takeStop; (repeat' split) <;> simp

@[simp] theorem State.takeCommit_frame :
    (s.takeCommit).power = s.power ∧ (s.takeCommit).port = s.port ∧ (s.takeCommit).trimRun = s.trimRun ∧
      (s.takeCommit).lines = s.lines ∧ (s.takeCommit).freeDraws = s.freeDraws ∧
      (s.takeCommit).pending = s.pending := by
  unfold State.takeCommit; (repeat' split) <;> simp

@[simp] theorem State.recalKeys_frame (cs : List Channel) :
    (s.recalKeys cs).power = s.power ∧ (s.recalKeys cs).port = s.port ∧ (s.recalKeys cs).trimRun = s.trimRun ∧
      (s.recalKeys cs).lines = s.lines ∧ (s.recalKeys cs).freeDraws = s.freeDraws ∧
      (s.recalKeys cs).pending = s.pending := by
  unfold State.recalKeys; (repeat' split) <;> simp

@[simp] theorem State.takeRecal_frame :
    (s.takeRecal).power = s.power ∧ (s.takeRecal).port = s.port ∧ (s.takeRecal).trimRun = s.trimRun ∧
      (s.takeRecal).lines = s.lines ∧ (s.takeRecal).freeDraws = s.freeDraws ∧
      (s.takeRecal).pending = s.pending := by
  unfold State.takeRecal; (repeat' split) <;> simp

@[simp] theorem State.takeTrim_frame :
    (s.takeTrim).power = s.power ∧ (s.takeTrim).port = s.port ∧ (s.takeTrim).store = s.store ∧
      (s.takeTrim).keys = s.keys ∧ (s.takeTrim).groups = s.groups ∧ (s.takeTrim).lines = s.lines ∧
      (s.takeTrim).freeDraws = s.freeDraws ∧ (s.takeTrim).pending = s.pending := by
  unfold State.takeTrim; (repeat' split) <;> simp

@[simp] theorem State.takeDoze_frame :
    (s.takeDoze).power = s.power ∧ (s.takeDoze).port = s.port ∧ (s.takeDoze).store = s.store ∧
      (s.takeDoze).trimRun = s.trimRun ∧ (s.takeDoze).lines = s.lines ∧ (s.takeDoze).freeDraws = s.freeDraws ∧
      (s.takeDoze).pending = s.pending := by
  unfold State.takeDoze; (repeat' split) <;> simp

@[simp] theorem State.takeWake_frame :
    (s.takeWake).power = s.power ∧ (s.takeWake).port = s.port ∧ (s.takeWake).trimRun = s.trimRun ∧
      (s.takeWake).lines = s.lines ∧ (s.takeWake).freeDraws = s.freeDraws ∧
      (s.takeWake).pending = s.pending := by
  unfold State.takeWake; (repeat' split) <;> simp

@[simp] theorem State.takeFlush_frame :
    (s.takeFlush).power = s.power ∧ (s.takeFlush).port = s.port ∧ (s.takeFlush).store = s.store ∧
      (s.takeFlush).engine = s.engine ∧ (s.takeFlush).scan = s.scan ∧ (s.takeFlush).keys = s.keys ∧
      (s.takeFlush).groups = s.groups ∧ (s.takeFlush).trimRun = s.trimRun ∧ (s.takeFlush).lines = s.lines ∧
      (s.takeFlush).freeDraws = s.freeDraws ∧ (s.takeFlush).pending = s.pending := by
  simp [State.takeFlush]

@[simp] theorem State.cancelTrim_frame :
    (s.cancelTrim).power = s.power ∧ (s.cancelTrim).port = s.port ∧ (s.cancelTrim).store = s.store ∧
      (s.cancelTrim).keys = s.keys ∧ (s.cancelTrim).groups = s.groups ∧ (s.cancelTrim).command = s.command ∧
      (s.cancelTrim).lines = s.lines ∧ (s.cancelTrim).freeDraws = s.freeDraws ∧
      (s.cancelTrim).pending = s.pending := by
  simp [State.cancelTrim]

@[simp] theorem State.takeAbort_frame :
    (s.takeAbort).power = s.power ∧ (s.takeAbort).port = s.port ∧ (s.takeAbort).keys = s.keys ∧
      (s.takeAbort).groups = s.groups ∧ (s.takeAbort).lines = s.lines ∧ (s.takeAbort).freeDraws = s.freeDraws ∧
      (s.takeAbort).pending = s.pending := by
  unfold State.takeAbort; (repeat' split) <;> simp

@[simp] theorem State.takeReset_frame :
    (s.takeReset).power = s.power ∧ (s.takeReset).port = s.port ∧ (s.takeReset).store = s.store ∧
      (s.takeReset).engine = s.engine ∧ (s.takeReset).scan = s.scan ∧ (s.takeReset).keys = s.keys ∧
      (s.takeReset).groups = s.groups ∧ (s.takeReset).trimRun = s.trimRun ∧ (s.takeReset).lines = s.lines ∧
      (s.takeReset).freeDraws = s.freeDraws ∧ (s.takeReset).pending = s.pending := by
  unfold State.takeReset; (repeat' split) <;> simp

@[simp] theorem State.rejectCommand_frame :
    (s.rejectCommand).power = s.power ∧ (s.rejectCommand).port = s.port ∧ (s.rejectCommand).store = s.store ∧
      (s.rejectCommand).engine = s.engine ∧ (s.rejectCommand).scan = s.scan ∧ (s.rejectCommand).keys = s.keys ∧
      (s.rejectCommand).groups = s.groups ∧ (s.rejectCommand).queue = s.queue ∧
      (s.rejectCommand).trimRun = s.trimRun ∧ (s.rejectCommand).lines = s.lines ∧
      (s.rejectCommand).freeDraws = s.freeDraws ∧ (s.rejectCommand).pending = s.pending := by
  simp [State.rejectCommand]

@[simp] theorem State.takeCommand_frame (n : CommandName) :
    (s.takeCommand n).power = s.power ∧ (s.takeCommand n).port = s.port ∧ (s.takeCommand n).lines = s.lines ∧
      (s.takeCommand n).freeDraws = s.freeDraws ∧ (s.takeCommand n).pending = s.pending := by
  cases n <;> simp [State.takeCommand]

@[simp] theorem State.commandRequest_frame (code : Byte) :
    (s.commandRequest code).power = s.power ∧ (s.commandRequest code).port = s.port ∧
      (s.commandRequest code).lines = s.lines ∧ (s.commandRequest code).freeDraws = s.freeDraws ∧
      (s.commandRequest code).pending = s.pending := by
  unfold State.commandRequest; (repeat' split) <;> simp

@[simp] theorem State.ignoreWrite_frame :
    (s.ignoreWrite).power = s.power ∧ (s.ignoreWrite).store = s.store ∧ (s.ignoreWrite).engine = s.engine ∧
      (s.ignoreWrite).scan = s.scan ∧ (s.ignoreWrite).keys = s.keys ∧ (s.ignoreWrite).groups = s.groups ∧
      (s.ignoreWrite).queue = s.queue ∧ (s.ignoreWrite).command = s.command ∧
      (s.ignoreWrite).trimRun = s.trimRun ∧ (s.ignoreWrite).lines = s.lines ∧
      (s.ignoreWrite).freeDraws = s.freeDraws ∧ (s.ignoreWrite).pending = s.pending := by
  simp [State.ignoreWrite]

@[simp] theorem State.setLine_frame (i : LineId) (l : IndicatorLine) :
    (s.setLine i l).power = s.power ∧ (s.setLine i l).port = s.port ∧ (s.setLine i l).store = s.store ∧
      (s.setLine i l).engine = s.engine ∧ (s.setLine i l).scan = s.scan ∧ (s.setLine i l).keys = s.keys ∧
      (s.setLine i l).groups = s.groups ∧ (s.setLine i l).queue = s.queue ∧
      (s.setLine i l).command = s.command ∧ (s.setLine i l).trimRun = s.trimRun ∧
      (s.setLine i l).freeDraws = s.freeDraws ∧ (s.setLine i l).pending = s.pending := by
  simp [State.setLine]

@[simp] theorem State.writeIndicator_frame (i : LineId) (it : IndicatorItem) (v : Byte) :
    (s.writeIndicator i it v).power = s.power ∧ (s.writeIndicator i it v).store = s.store ∧
      (s.writeIndicator i it v).engine = s.engine ∧ (s.writeIndicator i it v).scan = s.scan ∧
      (s.writeIndicator i it v).keys = s.keys ∧ (s.writeIndicator i it v).groups = s.groups ∧
      (s.writeIndicator i it v).queue = s.queue ∧ (s.writeIndicator i it v).command = s.command ∧
      (s.writeIndicator i it v).trimRun = s.trimRun ∧ (s.writeIndicator i it v).freeDraws = s.freeDraws ∧
      (s.writeIndicator i it v).pending = s.pending := by
  unfold State.writeIndicator; (repeat' split) <;> simp

@[simp] theorem State.writeFade_frame (i : LineId) (v : Byte) :
    (s.writeFade i v).power = s.power ∧ (s.writeFade i v).store = s.store ∧
      (s.writeFade i v).engine = s.engine ∧ (s.writeFade i v).scan = s.scan ∧ (s.writeFade i v).keys = s.keys ∧
      (s.writeFade i v).groups = s.groups ∧ (s.writeFade i v).queue = s.queue ∧
      (s.writeFade i v).command = s.command ∧ (s.writeFade i v).trimRun = s.trimRun ∧
      (s.writeFade i v).freeDraws = s.freeDraws ∧ (s.writeFade i v).pending = s.pending := by
  unfold State.writeFade; (repeat' split) <;> simp

@[simp] theorem State.expireFadeTimer_frame (i : LineId) :
    (s.expireFadeTimer i).power = s.power ∧ (s.expireFadeTimer i).port = s.port ∧
      (s.expireFadeTimer i).store = s.store ∧ (s.expireFadeTimer i).engine = s.engine ∧
      (s.expireFadeTimer i).scan = s.scan ∧ (s.expireFadeTimer i).keys = s.keys ∧
      (s.expireFadeTimer i).groups = s.groups ∧ (s.expireFadeTimer i).queue = s.queue ∧
      (s.expireFadeTimer i).command = s.command ∧ (s.expireFadeTimer i).trimRun = s.trimRun ∧
      (s.expireFadeTimer i).freeDraws = s.freeDraws ∧ (s.expireFadeTimer i).pending = s.pending := by
  unfold State.expireFadeTimer; (repeat' split) <;> simp

@[simp] theorem State.startFrame_frame :
    (s.startFrame).power = s.power ∧ (s.startFrame).port = s.port ∧ (s.startFrame).store = s.store ∧
      (s.startFrame).engine = s.engine ∧ (s.startFrame).scan = s.scan ∧ (s.startFrame).keys = s.keys ∧
      (s.startFrame).groups = s.groups ∧ (s.startFrame).queue = s.queue ∧ (s.startFrame).command = s.command ∧
      (s.startFrame).trimRun = s.trimRun ∧ (s.startFrame).freeDraws = s.freeDraws ∧
      (s.startFrame).pending = s.pending := by
  simp [State.startFrame]

@[simp] theorem State.endPulse_frame :
    (s.endPulse).power = s.power ∧ (s.endPulse).port = s.port ∧ (s.endPulse).store = s.store ∧
      (s.endPulse).engine = s.engine ∧ (s.endPulse).scan = s.scan ∧ (s.endPulse).keys = s.keys ∧
      (s.endPulse).groups = s.groups ∧ (s.endPulse).command = s.command ∧ (s.endPulse).trimRun = s.trimRun ∧
      (s.endPulse).lines = s.lines ∧ (s.endPulse).freeDraws = s.freeDraws ∧
      (s.endPulse).pending = s.pending := by
  simp [State.endPulse]

@[simp] theorem State.meetAll_frame :
    (s.meetAll).power = s.power ∧ (s.meetAll).port = s.port ∧ (s.meetAll).store = s.store ∧
      (s.meetAll).engine = s.engine ∧ (s.meetAll).scan = s.scan ∧ (s.meetAll).keys = s.keys ∧
      (s.meetAll).groups = s.groups ∧ (s.meetAll).queue = s.queue ∧ (s.meetAll).command = s.command ∧
      (s.meetAll).trimRun = s.trimRun ∧ (s.meetAll).freeDraws = s.freeDraws ∧
      (s.meetAll).pending = s.pending := by
  simp [State.meetAll]

@[simp] theorem State.send_frame (b : Byte) :
    (s.send b).power = s.power ∧ (s.send b).store = s.store ∧ (s.send b).engine = s.engine ∧
      (s.send b).scan = s.scan ∧ (s.send b).keys = s.keys ∧ (s.send b).groups = s.groups ∧
      (s.send b).queue = s.queue ∧ (s.send b).command = s.command ∧ (s.send b).trimRun = s.trimRun ∧
      (s.send b).lines = s.lines ∧ (s.send b).freeDraws = s.freeDraws ∧ (s.send b).pending = s.pending := by
  simp [State.send]

@[simp] theorem State.readField_frame (f : LatchedField) (a : Byte) :
    (s.readField f a).power = s.power ∧ (s.readField f a).store = s.store ∧
      (s.readField f a).engine = s.engine ∧ (s.readField f a).scan = s.scan ∧ (s.readField f a).keys = s.keys ∧
      (s.readField f a).groups = s.groups ∧ (s.readField f a).queue = s.queue ∧
      (s.readField f a).command = s.command ∧ (s.readField f a).trimRun = s.trimRun ∧
      (s.readField f a).lines = s.lines ∧ (s.readField f a).freeDraws = s.freeDraws ∧
      (s.readField f a).pending = s.pending := by
  unfold State.readField; (repeat' split) <;> simp

@[simp] theorem State.readKind_frame :
    (s.readKind).power = s.power ∧ (s.readKind).store = s.store ∧ (s.readKind).engine = s.engine ∧
      (s.readKind).scan = s.scan ∧ (s.readKind).keys = s.keys ∧ (s.readKind).groups = s.groups ∧
      (s.readKind).command = s.command ∧ (s.readKind).trimRun = s.trimRun ∧ (s.readKind).lines = s.lines ∧
      (s.readKind).freeDraws = s.freeDraws ∧ (s.readKind).pending = s.pending := by
  unfold State.readKind; (repeat' split) <;> simp

@[simp] theorem State.readValueB_frame :
    (s.readValueB).power = s.power ∧ (s.readValueB).store = s.store ∧ (s.readValueB).engine = s.engine ∧
      (s.readValueB).scan = s.scan ∧ (s.readValueB).keys = s.keys ∧ (s.readValueB).groups = s.groups ∧
      (s.readValueB).command = s.command ∧ (s.readValueB).trimRun = s.trimRun ∧
      (s.readValueB).lines = s.lines ∧ (s.readValueB).freeDraws = s.freeDraws ∧
      (s.readValueB).pending = s.pending := by
  simp [State.readValueB]

@[simp] theorem State.readAt_frame (a : Byte) :
    (s.readAt a).power = s.power ∧ (s.readAt a).store = s.store ∧ (s.readAt a).engine = s.engine ∧
      (s.readAt a).scan = s.scan ∧ (s.readAt a).keys = s.keys ∧ (s.readAt a).groups = s.groups ∧
      (s.readAt a).command = s.command ∧ (s.readAt a).trimRun = s.trimRun ∧ (s.readAt a).lines = s.lines ∧
      (s.readAt a).freeDraws = s.freeDraws ∧ (s.readAt a).pending = s.pending := by
  unfold State.readAt; (repeat' split) <;> simp

@[simp] theorem State.hostRead_frame (a : Byte) :
    (s.hostRead a).power = s.power ∧ (s.hostRead a).store = s.store ∧ (s.hostRead a).engine = s.engine ∧
      (s.hostRead a).scan = s.scan ∧ (s.hostRead a).keys = s.keys ∧ (s.hostRead a).groups = s.groups ∧
      (s.hostRead a).command = s.command ∧ (s.hostRead a).trimRun = s.trimRun ∧
      (s.hostRead a).lines = s.lines ∧ (s.hostRead a).freeDraws = s.freeDraws ∧
      (s.hostRead a).pending = s.pending := by
  simp [State.hostRead]

@[simp] theorem State.writeFilter_frame (v : Byte) :
    (s.writeFilter v).power = s.power ∧ (s.writeFilter v).port = s.port ∧ (s.writeFilter v).store = s.store ∧
      (s.writeFilter v).engine = s.engine ∧ (s.writeFilter v).scan = s.scan ∧ (s.writeFilter v).keys = s.keys ∧
      (s.writeFilter v).groups = s.groups ∧ (s.writeFilter v).command = s.command ∧
      (s.writeFilter v).trimRun = s.trimRun ∧ (s.writeFilter v).lines = s.lines ∧
      (s.writeFilter v).freeDraws = s.freeDraws ∧ (s.writeFilter v).pending = s.pending := by
  simp [State.writeFilter]

@[simp] theorem State.writeAttnMode_frame (v : Byte) :
    (s.writeAttnMode v).power = s.power ∧ (s.writeAttnMode v).store = s.store ∧
      (s.writeAttnMode v).engine = s.engine ∧ (s.writeAttnMode v).scan = s.scan ∧
      (s.writeAttnMode v).keys = s.keys ∧ (s.writeAttnMode v).groups = s.groups ∧
      (s.writeAttnMode v).command = s.command ∧ (s.writeAttnMode v).trimRun = s.trimRun ∧
      (s.writeAttnMode v).lines = s.lines ∧ (s.writeAttnMode v).freeDraws = s.freeDraws ∧
      (s.writeAttnMode v).pending = s.pending := by
  unfold State.writeAttnMode; (repeat' split) <;> simp

@[simp] theorem State.writePage_frame (v : Byte) :
    (s.writePage v).power = s.power ∧ (s.writePage v).store = s.store ∧ (s.writePage v).engine = s.engine ∧
      (s.writePage v).scan = s.scan ∧ (s.writePage v).keys = s.keys ∧ (s.writePage v).groups = s.groups ∧
      (s.writePage v).queue = s.queue ∧ (s.writePage v).command = s.command ∧
      (s.writePage v).trimRun = s.trimRun ∧ (s.writePage v).lines = s.lines ∧
      (s.writePage v).freeDraws = s.freeDraws ∧ (s.writePage v).pending = s.pending := by
  simp [State.writePage]

@[simp] theorem State.writeArg0_frame (v : Byte) :
    (s.writeArg0 v).power = s.power ∧ (s.writeArg0 v).port = s.port ∧ (s.writeArg0 v).store = s.store ∧
      (s.writeArg0 v).engine = s.engine ∧ (s.writeArg0 v).scan = s.scan ∧ (s.writeArg0 v).keys = s.keys ∧
      (s.writeArg0 v).groups = s.groups ∧ (s.writeArg0 v).queue = s.queue ∧
      (s.writeArg0 v).trimRun = s.trimRun ∧ (s.writeArg0 v).lines = s.lines ∧
      (s.writeArg0 v).freeDraws = s.freeDraws ∧ (s.writeArg0 v).pending = s.pending := by
  simp [State.writeArg0]

@[simp] theorem State.writeArg1_frame (v : Byte) :
    (s.writeArg1 v).power = s.power ∧ (s.writeArg1 v).port = s.port ∧ (s.writeArg1 v).store = s.store ∧
      (s.writeArg1 v).engine = s.engine ∧ (s.writeArg1 v).scan = s.scan ∧ (s.writeArg1 v).keys = s.keys ∧
      (s.writeArg1 v).groups = s.groups ∧ (s.writeArg1 v).queue = s.queue ∧
      (s.writeArg1 v).trimRun = s.trimRun ∧ (s.writeArg1 v).lines = s.lines ∧
      (s.writeArg1 v).freeDraws = s.freeDraws ∧ (s.writeArg1 v).pending = s.pending := by
  simp [State.writeArg1]

@[simp] theorem State.writeSticky_frame (v : Byte) :
    (s.writeSticky v).power = s.power ∧ (s.writeSticky v).store = s.store ∧
      (s.writeSticky v).engine = s.engine ∧ (s.writeSticky v).keys = s.keys ∧
      (s.writeSticky v).groups = s.groups ∧ (s.writeSticky v).queue = s.queue ∧
      (s.writeSticky v).trimRun = s.trimRun ∧ (s.writeSticky v).lines = s.lines ∧
      (s.writeSticky v).freeDraws = s.freeDraws ∧ (s.writeSticky v).pending = s.pending := by
  simp [State.writeSticky]

@[simp] theorem State.writeCommon_frame (a : Nat) (v : Byte) :
    (s.writeCommon a v).power = s.power ∧ (s.writeCommon a v).lines = s.lines ∧
      (s.writeCommon a v).freeDraws = s.freeDraws ∧ (s.writeCommon a v).pending = s.pending := by
  unfold State.writeCommon; (repeat' split) <;> simp

@[simp] theorem State.writeStaging_frame (p a : Nat) (v : Byte) :
    (s.writeStaging p a v).power = s.power ∧ (s.writeStaging p a v).engine = s.engine ∧
      (s.writeStaging p a v).scan = s.scan ∧ (s.writeStaging p a v).keys = s.keys ∧
      (s.writeStaging p a v).groups = s.groups ∧ (s.writeStaging p a v).queue = s.queue ∧
      (s.writeStaging p a v).command = s.command ∧ (s.writeStaging p a v).trimRun = s.trimRun ∧
      (s.writeStaging p a v).lines = s.lines ∧ (s.writeStaging p a v).freeDraws = s.freeDraws ∧
      (s.writeStaging p a v).pending = s.pending := by
  unfold State.writeStaging; (repeat' split) <;> simp

@[simp] theorem State.writeLinePage_frame (a : Nat) (v : Byte) :
    (s.writeLinePage a v).power = s.power ∧ (s.writeLinePage a v).store = s.store ∧
      (s.writeLinePage a v).engine = s.engine ∧ (s.writeLinePage a v).scan = s.scan ∧
      (s.writeLinePage a v).keys = s.keys ∧ (s.writeLinePage a v).groups = s.groups ∧
      (s.writeLinePage a v).queue = s.queue ∧ (s.writeLinePage a v).command = s.command ∧
      (s.writeLinePage a v).trimRun = s.trimRun ∧ (s.writeLinePage a v).freeDraws = s.freeDraws ∧
      (s.writeLinePage a v).pending = s.pending := by
  unfold State.writeLinePage; (repeat' split) <;> simp

@[simp] theorem State.writePaged_frame (p a : Nat) (v : Byte) :
    (s.writePaged p a v).power = s.power ∧ (s.writePaged p a v).engine = s.engine ∧
      (s.writePaged p a v).scan = s.scan ∧ (s.writePaged p a v).keys = s.keys ∧
      (s.writePaged p a v).groups = s.groups ∧ (s.writePaged p a v).queue = s.queue ∧
      (s.writePaged p a v).command = s.command ∧ (s.writePaged p a v).trimRun = s.trimRun ∧
      (s.writePaged p a v).freeDraws = s.freeDraws ∧ (s.writePaged p a v).pending = s.pending := by
  unfold State.writePaged; (repeat' split) <;> simp

@[simp] theorem State.writeAt_frame (a v : Byte) :
    (s.writeAt a v).power = s.power ∧ (s.writeAt a v).freeDraws = s.freeDraws ∧
      (s.writeAt a v).pending = s.pending := by
  unfold State.writeAt; (repeat' split) <;> simp

@[simp] theorem State.hostWrite_frame (a v : Byte) :
    (s.hostWrite a v).power = s.power ∧ (s.hostWrite a v).freeDraws = s.freeDraws ∧
      (s.hostWrite a v).pending = s.pending := by
  simp [State.hostWrite]

@[simp] theorem State.setPointer_frame (v : Byte) :
    (s.setPointer v).power = s.power ∧ (s.setPointer v).store = s.store ∧ (s.setPointer v).engine = s.engine ∧
      (s.setPointer v).scan = s.scan ∧ (s.setPointer v).keys = s.keys ∧ (s.setPointer v).groups = s.groups ∧
      (s.setPointer v).queue = s.queue ∧ (s.setPointer v).command = s.command ∧
      (s.setPointer v).trimRun = s.trimRun ∧ (s.setPointer v).lines = s.lines ∧
      (s.setPointer v).freeDraws = s.freeDraws ∧ (s.setPointer v).pending = s.pending := by
  simp [State.setPointer]

end Sys2Proof.Machine
end

