-- ==== Sys2Proof/Laws/Events.lean ====
section
/-! SUPPORT. What the shared operations do, once for each: lines that follow an event, records offered in a row,
bytes on the bus, a request the command unit takes, a measurement request, a round start, and the moves of a key. -/

namespace Sys2Proof.Machine

/-! ## Live configuration and targets -/

theorem State.live_of_store {s t : State} (h : t.store = s.store) : t.live = s.live := by
  simp only [State.live, h]

theorem State.targetLevel_congr {s t : State} (hk : t.keys = s.keys) (hg : t.groups = s.groups)
    (hm : s.scan.mode = .doze ↔ t.scan.mode = .doze) (l : IndicatorLine) :
    s.targetLevel l = t.targetLevel l := by
  simp only [State.targetLevel, State.sourceLevel, hk, hg, hm]

@[simp] theorem State.driveFrom_targetLevel (s t : State) (l : IndicatorLine) :
    (State.driveFrom s t).targetLevel l = t.targetLevel l :=
  (State.targetLevel_congr (by simp) (by simp) (by simp) l).symm

/-- Lines whose targets the event leaves alone stay as they are. -/
theorem State.driveFrom_same {s t : State} (hl : t.lines = s.lines)
    (ht : ∀ i : LineId, s.targetLevel s.lines[i] = t.targetLevel s.lines[i]) : State.driveFrom s t = t := by
  have : (State.driveFrom s t).lines = t.lines := by
    simp only [State.driveFrom, State.withLines_lines]
    apply table_ext
    intro i
    have h2 := ht i
    simp only [Fin.getElem_fin, getElem_tab] at *
    simp only [hl, h2, if_true]
  exact State.eq_of_fields (by simp) (by simp) (by simp) (by simp) (by simp) (by simp) (by simp) (by simp) (by simp)
    (by simp) (by simpa using this) (by simp) (by simp)

/-- An event that changes no key, no group and not whether the mode is DOZE moves no line. -/
theorem State.driveFrom_quiet {s t : State} (hl : t.lines = s.lines) (hk : t.keys = s.keys)
    (hg : t.groups = s.groups) (hm : s.scan.mode = .doze ↔ t.scan.mode = .doze) : State.driveFrom s t = t :=
  State.driveFrom_same hl fun _ => State.targetLevel_congr hk hg hm _

/-- The lines after an event that writes none of them. -/
theorem State.driveFrom_follows {s t : State} (hl : t.lines = s.lines) : LinesFollow s (State.driveFrom s t) := by
  intro i
  rw [State.driveFrom_targetLevel]
  simp [State.driveFrom, hl]

/-! ## Records offered in a row -/

@[simp] theorem EventQueue.offerAll_nil (q : EventQueue) : q.offerAll [] = q := rfl

@[simp] theorem EventQueue.offerAll_cons (q : EventQueue) (r : EventRecord) (rs : List EventRecord) :
    q.offerAll (r :: rs) = (q.offer r).offerAll rs := rfl

theorem EventQueue.offerAll_append (q : EventQueue) (a b : List EventRecord) :
    q.offerAll (a ++ b) = (q.offerAll a).offerAll b := by
  simp [EventQueue.offerAll]

@[simp] theorem State.offer_queue (s : State) (r : EventRecord) : (s.offer r).queue = s.queue.offer r := rfl

@[simp] theorem State.offerAll_queue (s : State) (rs : List EventRecord) :
    (s.offerAll rs).queue = s.queue.offerAll rs := rfl

@[simp] theorem State.changeMode_queue (s : State) (m : Mode) (c : ModeCause) (b : Byte) :
    (s.changeMode m c b).queue = s.queue.offer (modeRecord m c b) := rfl

@[simp] theorem State.changeMode_scan (s : State) (m : Mode) (c : ModeCause) (b : Byte) :
    (s.changeMode m c b).scan = { s.scan with mode := m } := rfl

@[simp] theorem State.endCommand_queue (s : State) (code : Byte) (r : ResultCode) (d : Byte) :
    (s.endCommand code r d).queue = s.queue.offer (cmdDoneRecord code r d) := by
  unfold State.endCommand; split <;> simp

@[simp] theorem State.endCommand_command (s : State) (code : Byte) (r : ResultCode) (d : Byte) :
    (s.endCommand code r d).command =
      if s.command.inProgress = none then s.command.reporting code r d else s.command := by
  cases h : s.command.inProgress <;> simp [State.endCommand, State.busy, h, CommandUnit.reporting]

/-! ## Bytes on the bus (12, R179, R180, R185) -/

/-- A part that answers takes the transactions that begin. -/
theorem State.beginTransaction_of_answering {s : State} (h : s.power = .answering) (d : Direction) (n : Byte)
    (f : State → State) : s.beginTransaction d n f = f s := by
  simp [State.beginTransaction, h]

/-- A part that is held in reset leaves the transactions that begin. -/
theorem State.beginTransaction_of_held {s : State} (h : s.power = .heldInReset) (d : Direction) (n : Byte)
    (f : State → State) : s.beginTransaction d n f = s.leave d n := by
  simp [State.beginTransaction, h]

/-- A transaction that begins in the start-up time: one draw, then its effect or a transaction left unanswered. -/
theorem State.beginTransaction_of_startUp {s : State} (h : s.power = .startUp) (d : Direction) (n : Byte)
    (f : State → State) :
    s.beginTransaction d n f =
      if Config.startUpAnswers s.freeDraws = true then f (s.withFreeDraws (s.freeDraws + 1))
      else (s.withFreeDraws (s.freeDraws + 1)).leave d n := by
  simp [State.beginTransaction, h]

/-- A further byte of an acknowledged transaction is taken, in the start-up time also. -/
theorem State.furtherByte_of_answered {s : State} {d : Direction} (h : s.port.transaction = some (.answered d))
    (hp : s.power ≠ .heldInReset) (f : State → State) : s.furtherByte d f = f s := by
  simp [State.furtherByte, h, hp]

/-- A further byte of a write transaction left unanswered, or abandoned, is not taken, whatever the power condition. -/
theorem State.furtherByte_of_left {s : State} {n : Byte} (h : s.port.transaction = some (.left n))
    (f : State → State) : s.furtherByte .write f = s.leave .write (n + 1) := by
  simp [State.furtherByte, h]

/-- Where no transaction of the direction is open, a further byte is none of the port's. -/
theorem State.furtherByte_of_closed {s : State} {d : Direction} (h : s.port.place d = none) (f : State → State) :
    s.furtherByte d f = s := by
  unfold HostPort.place at h
  unfold State.furtherByte
  split <;> simp_all

/-- A byte that goes on with the open transaction. -/
theorem State.onBus_further {s : State} {d : Direction} {a : Byte} (h : s.port.place d = some a) (f : State → State) :
    s.onBus d a f = s.furtherByte d f :=
  if_pos h

/-- A byte that begins a transaction. -/
theorem State.onBus_begins {s : State} {d : Direction} {a : Byte} (h : s.port.place d ≠ some a) (f : State → State) :
    s.onBus d a f = s.beginTransaction d (a + 1) f :=
  if_neg h

/-- A part that answers takes every byte but those of a write transaction it left. -/
theorem State.onBus_of_answering {s : State} {d : Direction} {a : Byte} (hp : s.power = .answering)
    (hl : d = .write → s.port.transaction ≠ some (.left a)) (f : State → State) : s.onBus d a f = f s := by
  by_cases hd : s.port.place d = some a
  · rw [State.onBus_further hd]
    unfold HostPort.place at hd
    unfold State.furtherByte
    split at hd <;> simp_all
  · rw [State.onBus_begins hd, State.beginTransaction_of_answering hp]

theorem State.onBus_of_answersAt {s : State} {a : Byte} (h : s.AnswersAt a) (f : State → State) :
    s.onBus .write a f = f s :=
  State.onBus_of_answering h.1 (fun _ => h.2) f

/-- A part that answers sends every byte read, of a transaction of its own or of the open one. -/
theorem State.onBus_of_answersReads {s : State} (h : s.AnswersReads) (a : Byte) (f : State → State) :
    s.onBus .read a f = f s :=
  State.onBus_of_answering h (fun hd => by cases hd) f

/-! ## The command unit takes a request -/

theorem commandOf_code (n : CommandName) : commandOf n.code = some n := by cases n <;> decide

/-- A request that is taken has its command's effect; the pointer moves on, and the lines follow. -/
theorem State.commandByte_taken {s : State} {n : CommandName} (h : s.Takes)
    (hb : s.command.inProgress = none ∨ n.takenWhenBusy = true) :
    s.commandByte n.code = State.driveFrom s ((s.takeCommand n).pointAfter 0x06 .write) := by
  obtain ⟨ha, hr⟩ := h
  have : s.commandRequest n.code = s.takeCommand n := by
    unfold State.commandRequest
    rw [commandOf_code, hr]
    rcases hb with hb | hb <;> simp [State.busy, hb]
  rw [State.commandByte, State.onBus_of_answersAt ha]
  simp [State.hostWrite, State.writeAt, State.writeCommon, this]

theorem State.Idle.takes {s : State} (h : s.Idle) : s.Takes := ⟨h.1, h.2.1⟩

/-- The same for an IDLE unit. -/
theorem State.commandByte_idle {s : State} (n : CommandName) (h : s.Idle) :
    s.commandByte n.code = State.driveFrom s ((s.takeCommand n).pointAfter 0x06 .write) :=
  State.commandByte_taken h.takes (Or.inl h.2.2)

@[simp] theorem State.pointAfter_port (s : State) (a : Byte) :
    (s.pointAfter a .write).port = s.port.after a := rfl

@[simp] theorem State.pointAfterRead_port (s : State) (a : Byte) :
    (s.pointAfter a .read).port = s.port.afterRead a := rfl

/-! ## Measurement requests and round starts -/

@[simp] theorem State.request_engine (s : State) (q : Requester) (c : Channel) (t : BitVec 6) :
    (s.request q c t).engine = { s.engine with current := some (s.live.measurementOf q c t) } := rfl

@[simp] theorem State.requestScan_engine (s : State) (c : Channel) :
    (s.requestScan c).engine =
      { s.engine with current := some (s.live.measurementOf .scan c s.live.channels[c].trim) } := rfl

/-- A round start with no commit pending and a channel to measure (2, R22). -/
theorem State.startRound_eq {s : State} {c : Channel} {rest : List Channel} (hs : s.store.snapshot = none)
    (h : s.live.measuredChannels (roundKindOf s.scan.mode) = c :: rest) :
    s.startRound =
      (s.withScan { s.scan with
        round := some ⟨roundKindOf s.scan.mode, c :: rest, []⟩
        timer := some (s.live.period (roundKindOf s.scan.mode))
        due := false }).requestScan c := by
  have e : s.installPending = s := by simp [State.installPending, hs]
  simp only [State.startRound, e, State.launchRound, h]

/-! ## Moves of a key -/

theorem moveKey_cal (c : Channel) (k : KeyRecord) :
    moveKey c .cal k = (k.atCal, if k.near then [proxOffRecord c] else []) := by
  cases h : k.near <;> simp [moveKey, KeyRecord.enter, KeyRecord.atCal, h]

theorem moveKey_off (c : Channel) (k : KeyRecord) :
    moveKey c .off k = (k.atOff, if k.near then [proxOffRecord c] else []) := by
  cases h : k.near <;> simp [moveKey, KeyRecord.enter, KeyRecord.atOff, KeyRecord.atCal, h]

theorem moveKey_idle (c : Channel) (k : KeyRecord) :
    moveKey c .idle k = (k.atIdle, if k.near then [proxOffRecord c] else []) := by
  cases h : k.near <;> simp [moveKey, KeyRecord.enter, KeyRecord.atIdle, h]

/-- The records of a key forced out of its state. -/
theorem upBefore_forced (m : Bool) (c : Channel) (cause : ReleaseCause) (k k' : KeyRecord) :
    upBefore m c cause k (k', if k.near then [proxOffRecord c] else []) = (k', forcedRecords m cause.code c k) := by
  cases m <;> simp [upBefore, forcedRecords, keyUpRecords, keyUpRecord, proxOffRecord]

@[simp] theorem State.forceKeys_keys (s : State) (cs : List Channel) (move : Channel → KeyRecord → KeyOutcome)
    (c : Nat) (h : c < 24) :
    (s.forceKeys cs move).keys[c] = if cs.contains ⟨c, h⟩ then (move ⟨c, h⟩ s.keys[c]).1 else s.keys[c] := by
  simp [State.forceKeys]

@[simp] theorem State.forceKeys_queue (s : State) (cs : List Channel) (move : Channel → KeyRecord → KeyOutcome) :
    (s.forceKeys cs move).queue = s.queue.offerAll (cs.flatMap fun c => (move c s.keys[c]).2) := by
  simp [State.forceKeys]

theorem membersIn_pressed_eq_nil (members : List Channel) (keys : Vector KeyRecord 24) :
    membersIn .pressed members keys = [] ↔ (members.all fun c => keys[c].state != .pressed) = true := by
  simp [membersIn, List.filter_eq_nil_iff]

/-- The groups after a forced transition (5, R96). -/
theorem State.followGroups_groups (s : State) (cause : ReleaseCause) (g : GroupId) :
    (s.followGroups cause).groups[g] = if s.groupLeft s.keys g then GroupRun.cleared else s.groups[g] := by
  simp only [State.followGroups, State.offerAll_frame, State.withGroups_groups, Fin.getElem_fin, getElem_tab,
    releasedGroup, membersIn_pressed_eq_nil, State.groupLeft, Bool.and_eq_true]
  split <;> rfl

/-- The group records after a forced transition (5, R96). -/
theorem State.followGroups_queue (s : State) (cause : ReleaseCause) :
    (s.followGroups cause).queue = s.queue.offerAll (s.groupLeftRecords s.keys cause.code) := by
  simp only [State.followGroups, State.offerAll_queue, State.withGroups_queue, State.groupLeftRecords]
  congr 1
  apply List.flatMap_congr
  intro g _
  simp only [releasedGroup, membersIn_pressed_eq_nil, State.groupLeft, Bool.and_eq_true]
  split <;> simp_all [groupReleaseRecord]

end Sys2Proof.Machine
end

