-- ==== Sys2Proof/Laws/Outcomes.lean ====
section
/-! SUPPORT. What the larger shared operations answer, once for each: the events inside the part, forced
transitions of keys, bursts and their results, coalescing, and which parts of the state an evaluation reads. -/

namespace Sys2Proof.Machine

/-! ## Events inside the part -/

/-- An event inside a part that runs has its effect, and the lines follow it. -/
theorem State.inside_of_runs {s : State} (h : s.Runs) (f : State → State) :
    s.inside f = State.driveFrom s (f s) := by
  simp [State.inside, show s.power ≠ .heldInReset from h]

/-- An event that changes nothing moves no line. -/
@[simp] theorem State.driveFrom_self (s : State) : State.driveFrom s s = s :=
  State.driveFrom_quiet rfl rfl rfl Iff.rfl

/-! ## Forced transitions (3, R57 to R60; 8, R143) -/

theorem listed_iff_mem (cfg : Configuration) (c : Channel) : cfg.listed c = true ↔ c ∈ cfg.scanList := by
  simp [Configuration.listed]

theorem forced_to_cal (m : Bool) (c : Channel) (cause : ReleaseCause) (k : KeyRecord) :
    upBefore m c cause k (moveKey c .cal k) = (k.atCal, forcedRecords m cause.code c k) := by
  rw [moveKey_cal, upBefore_forced]

theorem forced_to_off (m : Bool) (c : Channel) (cause : ReleaseCause) (k : KeyRecord) :
    upBefore m c cause k (moveKey c .off k) = (k.atOff, forcedRecords m cause.code c k) := by
  rw [moveKey_off, upBefore_forced]

theorem forced_to_idle (m : Bool) (c : Channel) (cause : ReleaseCause) (k : KeyRecord) :
    upBefore m c cause k (moveKey c .idle k) = (k.atIdle, forcedRecords m cause.code c k) := by
  rw [moveKey_idle, upBefore_forced]

/-- The key and the records of a release by STOP or DOZE. -/
theorem releaseKey_eq (cfg : Configuration) (cause : ReleaseCause) (c : Channel) (k : KeyRecord) :
    releaseKey cfg cause c k =
      (if k.state.handThere = true then k.atIdle else k,
        if k.state.handThere = true then forcedRecords (cfg.sliderMember c) cause.code c k else []) := by
  unfold releaseKey
  cases h : k.state <;> cases hm : cfg.sliderMember c <;>
    simp [KeyState.handThere, moveKey_idle, forcedRecords, h, upBefore, keyUpRecords, proxOffRecord, keyUpRecord]

/-- The key and the records of STOP: besides the release, a calibration in progress loses its samples. -/
theorem stopKey_eq (cfg : Configuration) (c : Channel) (k : KeyRecord) :
    stopKey cfg c k =
      (if k.state = .cal then { k with acc := Accumulator.empty }
        else if k.state.handThere = true then k.atIdle else k,
        if k.state.handThere = true then forcedRecords (cfg.sliderMember c) 0x03 c k else []) := by
  unfold stopKey releaseKey
  cases h : k.state <;> cases hm : cfg.sliderMember c <;>
    simp [KeyState.handThere, moveKey_idle, forcedRecords, h, upBefore, keyUpRecords, proxOffRecord,
      ReleaseCause.code, keyUpRecord]

/-- The key an install leaves, by its case. -/
theorem installKey_key (old new : Configuration) (c : Channel) (k : KeyRecord) :
    (installKey old new c k).1 =
      match installCase old new c with
      | .removed => k.atOff
      | .added => k.atCal
      | .remeasured => k.atCal
      | .regrouped =>
        if k.state = .pressed ∨ k.state = .suppressed ∨ k.state = .detect then k.atIdle
        else { k with debounce := 0, release := 0 }
      | .redetected => { k with debounce := 0, release := 0 }
      | .untouched => k := by
  unfold installKey
  cases installCase old new c <;> simp [upBefore, moveKey_cal, moveKey_off, moveKey_idle, clearDebounce]
  cases h : k.state <;> simp [leavesWhenRegrouped, KeyRecord.atIdle]

/-! ## Bursts (1, R3, R4) -/

theorem largestCount_le (l : List Nat) (b : Nat) : largestCount l ≤ b ↔ ∀ n ∈ l, n ≤ b := by
  induction l with
  | nil => simp [largestCount]
  | cons a l ih =>
    simp only [largestCount, List.foldr_cons, List.mem_cons, forall_eq_or_imp, max_le_iff] at ih ⊢
    rw [ih]

theorem le_smallestCount {l : List Nat} (h : l ≠ []) (b : Nat) : b ≤ smallestCount l ↔ ∀ n ∈ l, b ≤ n := by
  cases l with
  | nil => contradiction
  | cons a l =>
    simp only [smallestCount]
    clear h
    induction l with
    | nil => simp
    | cons c l ih =>
      simp only [List.foldr_cons, List.mem_cons, forall_eq_or_imp, le_min_iff] at ih ⊢
      rw [ih]
      tauto

theorem burstSpread_le {l : List Nat} (h : l ≠ []) (b : Nat) :
    burstSpread l ≤ b ↔ ∀ x ∈ l, ∀ y ∈ l, x ≤ b + y := by
  constructor
  · intro hh x hx y hy
    have h1 := (largestCount_le l (largestCount l)).1 le_rfl x hx
    have h2 := (le_smallestCount h (smallestCount l)).1 le_rfl y hy
    have h3 : largestCount l - smallestCount l ≤ b := hh
    omega
  · intro hh
    have h1 : ∀ y ∈ l, largestCount l ≤ b + y := fun y hy => (largestCount_le l _).2 fun x hx => hh x hx y hy
    have h2 : largestCount l - b ≤ smallestCount l :=
      (le_smallestCount h _).2 fun y hy => by have := h1 y hy; omega
    show largestCount l - smallestCount l ≤ b
    omega

/-- The last conversion of a scan measurement that is not retried hands its result to the scan controller. -/
theorem State.endConversion_scan {s : State} {m : Measurement} (n : Nat) (hm : s.engine.current = some m)
    (hq : m.requester = .scan) (hl : m.counts.length + 1 = m.burstLength)
    (hv : burstVerdict m (m.counts ++ [min n m.ceiling]) ≠ .noisy ∨ m.retries = 0) :
    s.endConversion n =
      s.abandonMeasurement.receiveScan
        ⟨m.channel, burstVerdict m (m.counts ++ [min n m.ceiling]),
          (m.counts ++ [min n m.ceiling]).sum / m.burstLength⟩ := by
  have h1 : ¬ (m.counts ++ [min n m.ceiling]).length < m.burstLength := by simp; omega
  have h2 : ¬ (burstVerdict m (m.counts ++ [min n m.ceiling]) = .noisy ∧ m.retries ≠ 0) := by tauto
  simp only [State.endConversion, hm, h1, if_false, State.endBurst, h2, hq, State.deliver, burstMean]
  rw [← hl]
  simp

/-! ## Evaluations (3, R41; 10, R161) -/

/-- An evaluation reads the store, the keys, the groups and the queue, and nothing else. -/
theorem State.evaluate_congr {s u : State} (rs : List MeasResult) (hs : u.store = s.store) (hk : u.keys = s.keys)
    (hg : u.groups = s.groups) (hq : u.queue = s.queue) :
    (u.evaluate rs).keys = (s.evaluate rs).keys ∧ (u.evaluate rs).groups = (s.evaluate rs).groups ∧
      (u.evaluate rs).queue = (s.evaluate rs).queue := by
  simp [State.evaluate, State.live, hs, hk, hg, hq]

theorem allQuiet_iff (keys : Vector KeyRecord 24) :
    allQuiet keys = true ↔ ∀ c : Channel, keys[c].state.quiet = true := by
  simp [allQuiet, allChannels]

/-! ## Coalescing (6, R107) -/

theorem replaceMove_eq_none (g p : Byte) (l : List EventRecord) :
    replaceMove g p l = none ↔ ∀ e ∈ l, isMoveOf g e = false := by
  induction l with
  | nil => simp [replaceMove]
  | cons a l ih =>
    simp only [replaceMove]
    cases h : isMoveOf g a <;> simp_all

/-- A replacement writes into the first move of the group, and leaves every other record where it is. -/
theorem replaceMove_eq_some {g p : Byte} {l l' : List EventRecord} (h : replaceMove g p l = some l') :
    ∃ before after e, l = before ++ e :: after ∧ isMoveOf g e = true ∧ (∀ x ∈ before, isMoveOf g x = false) ∧
      l' = before ++ { e with valueA := p } :: after := by
  induction l generalizing l' with
  | nil => simp [replaceMove] at h
  | cons a l ih =>
    simp only [replaceMove] at h
    cases ha : isMoveOf g a
    · simp only [ha, Bool.false_eq_true, if_false, Option.map_eq_some_iff] at h
      obtain ⟨x, hx, rfl⟩ := h
      obtain ⟨b, af, e, rfl, h2, h3, rfl⟩ := ih hx
      exact ⟨a :: b, af, e, rfl, h2, by simpa [ha] using h3, rfl⟩
    · simp only [ha, if_true, Option.some.injEq] at h
      subst h
      exact ⟨[], l, a, rfl, ha, by simp, rfl⟩

/-- Where a GROUP_MOVE coalesces: among the unheld records. -/
theorem EventQueue.coalesced_move (q : EventQueue) {r : EventRecord} (h : r.kind = .groupMove) :
    q.coalesced r =
      (replaceMove r.index r.valueA q.unheld).map ((if q.hold = .held then q.records.take 1 else []) ++ ·) := by
  simp only [EventQueue.coalesced, h, if_true, EventQueue.unheld]
  cases q.hold <;> cases q.records <;> simp [replaceMove]

end Sys2Proof.Machine
end

