-- ==== Sys2Proof/Laws/Install.lean ====
section
/-! SUPPORT. What an install of a valid configuration does (8, R141 to R147): the cases of R143 against the model's
own, the records of keys and groups, and the whole install at once. -/

namespace Sys2Proof.Machine

/-! ## Groups of a valid configuration (8, R137) -/

/-- What a valid configuration has passed, check by check. -/
theorem Configuration.check_of_valid {cfg : Configuration} (h : cfg.valid = true) :
    ∀ v ∈ validationChecks, v.2 cfg = none := by
  simp only [Configuration.valid, validationFailure, Option.isNone_iff_eq_none, List.findSome?_eq_none_iff] at h
  intro v hv
  simpa using h v hv

/-- A code of a valid configuration names NONE exactly when it is 0 (V12). -/
theorem kind_zero_iff {cfg : Configuration} (h : cfg.valid = true) (g : GroupId) :
    cfg.groups[g].kind = 0 ↔ cfg.groups[g].groupKind = .none := by
  have h12 : checkV12 cfg = none := Configuration.check_of_valid h (231, checkV12) (by simp [validationChecks])
  simp only [checkV12, firstGroup, Option.map_eq_none_iff, List.find?_eq_none, allGroups, List.mem_finRange,
    true_imp_iff] at h12
  have := h12 g
  simp only [Bool.not_eq_true, Bool.not_eq_false', groupWellFormed] at this
  generalize cfg.groups[g] = d at *
  simp only [GroupDef.groupKind]
  unfold groupKindOf at this ⊢
  by_cases h0 : d.kind = 0 <;> by_cases h1 : d.kind = 1 <;> by_cases h2 : d.kind = 2 <;> by_cases h3 : d.kind = 3 <;>
    simp_all

/-- No channel is in two groups of a valid configuration (V13). -/
theorem inGroup_unique {cfg : Configuration} (h : cfg.valid = true) {g g' : GroupId} {c : Channel}
    (hg : cfg.InGroup g c) (hg' : cfg.InGroup g' c) : g = g' := by
  have h13 : checkV13 cfg = none := Configuration.check_of_valid h (237, checkV13) (by simp [validationChecks])
  have key : ∀ g g' : GroupId, g' < g → cfg.InGroup g c → cfg.InGroup g' c → False := by
    intro g g' hlt hg hg'
    simp only [checkV13, firstGroup, Option.map_eq_none_iff, List.find?_eq_none, allGroups, List.mem_finRange,
      true_imp_iff] at h13
    have := h13 g
    simp only [Bool.not_eq_true, Bool.not_eq_false', List.all_eq_true, List.mem_finRange, true_imp_iff] at this
    have := this g'
    simp only [Bool.or_eq_true, Bool.not_eq_true', decide_eq_false_iff_not, hlt, not_true, false_or,
      List.all_eq_true, Configuration.countedMembers] at this
    rw [if_neg fun x => hg.1 ((kind_zero_iff h g).2 x), if_neg fun x => hg'.1 ((kind_zero_iff h g').2 x)] at this
    exact absurd (this c hg.2) (by simpa using hg'.2)
  rcases lt_trichotomy g g' with x | x | x
  · exact (key g' g x hg' hg).elim
  · exact x
  · exact (key g g' x hg hg').elim

/-- The channel's group, by membership. -/
theorem groupOf_eq_some {cfg : Configuration} (h : cfg.valid = true) (c : Channel) (g : GroupId) :
    cfg.groupOf c = some g ↔ cfg.InGroup g c := by
  have p : ∀ g : GroupId, (cfg.groups[g].groupKind != .none && cfg.groups[g].memberList.contains c) = true ↔
      cfg.InGroup g c := by
    intro g
    have := kind_zero_iff h g
    simp only [Configuration.InGroup, Ne, this]
    simp
  have found : ∀ g, cfg.groupOf c = some g → cfg.InGroup g c := by
    intro g hh
    unfold Configuration.groupOf at hh
    exact (p g).1 (List.find?_some
      (p := fun (g : GroupId) => cfg.groups[g].groupKind != .none && cfg.groups[g].memberList.contains c) hh)
  refine ⟨found g, fun hh => ?_⟩
  cases hf : cfg.groupOf c with
  | none =>
    simp only [Configuration.groupOf, List.find?_eq_none] at hf
    exact absurd ((p g).2 hh) (hf g (by simp [allGroups]))
  | some g' => rw [inGroup_unique h (found g' hf) hh]

/-- Over an empty list every group of a valid configuration is NONE (V12, V14). -/
theorem groupKind_of_empty {cfg : Configuration} (h : cfg.valid = true) (he : cfg.scanList = []) (g : GroupId) :
    cfg.groups[g].groupKind = .none := by
  have h12 : checkV12 cfg = none := Configuration.check_of_valid h (231, checkV12) (by simp [validationChecks])
  have h14 : checkV14 cfg = none := Configuration.check_of_valid h (243, checkV14) (by simp [validationChecks])
  by_contra hk
  simp only [checkV12, firstGroup, Option.map_eq_none_iff, List.find?_eq_none, allGroups, List.mem_finRange,
    true_imp_iff] at h12
  simp only [checkV14, firstGroup, Option.map_eq_none_iff, List.find?_eq_none, allGroups, List.mem_finRange,
    true_imp_iff] at h14
  have h12 := h12 g
  have h14 := h14 g
  simp only [Bool.not_eq_true, Bool.not_eq_false', Configuration.countedMembers, if_neg hk] at h12 h14
  generalize cfg.groups[g] = d at *
  have none : d.memberList = [] := by
    cases hm : d.memberList with
    | nil => rfl
    | cons a b => rw [hm] at h14; simp [Configuration.listed, he] at h14
  have hd : 2 ≤ d.count.toNat ∧ membersDistinct d = true := by
    simp only [groupWellFormed] at h12
    simp only [GroupDef.groupKind] at hk
    cases hh : groupKindOf d.kind with
    | none => simp [hh] at hk
    | some x => cases x <;> simp [hh, within] at h12 hk ⊢ <;> grind
  have h0 : (d.members[0]).toNat < 24 := by
    have := hd.2
    simp only [membersDistinct, List.all_eq_true, List.mem_range] at this
    simpa using this 0 (by omega)
  simp only [GroupDef.memberList, List.filterMap_eq_nil_iff] at none
  have := none d.members[0] (by rw [List.mem_take_iff_getElem]; exact ⟨0, by simp; omega, by simp⟩)
  simp [channelOf] at this
  omega

/-! ## The cases of R143 -/

theorem definitionChanged_iff {old new : GroupDef} (ho : old.kind = 0 ↔ old.groupKind = .none)
    (hn : new.kind = 0 ↔ new.groupKind = .none) : definitionChanged old new = true ↔ GroupDiffers old new := by
  unfold definitionChanged GroupDiffers
  simp only [← ho, ← hn]
  split
  · simp_all
  · simp_all [or_assoc]

theorem groupingChanged_iff {old new : Configuration} (ho : old.valid = true) (hn : new.valid = true) (c : Channel) :
    groupingChanged old new c = true ↔ Regrouped old new c := by
  have dd : ∀ g : GroupId, definitionChanged old.groups[g] new.groups[g] = true ↔
      GroupDiffers old.groups[g] new.groups[g] :=
    fun g => definitionChanged_iff (kind_zero_iff ho g) (kind_zero_iff hn g)
  simp only [groupingChanged, Regrouped, ← groupOf_eq_some ho c, ← groupOf_eq_some hn c, ← dd]
  split
  · next h =>
    rw [h]
    cases new.groupOf c <;> simp
  · next h =>
    simp only [true_iff]
    cases h1 : old.groupOf c with
    | none =>
      cases h2 : new.groupOf c with
      | none => simp_all
      | some g => exact ⟨g, by simp⟩
    | some g => exact ⟨g, by left; simp; intro h3; exact h (h1.trans h3.symm)⟩

/-- The key an install leaves, by R143's table. -/
theorem installKey_row {old new : Configuration} (ho : old.valid = true) (hn : new.valid = true) (c : Channel)
    (k : KeyRecord) : InstallRow old new c k (installKey old new c k).1 := by
  have hm : measurementChanged old.channels[c] new.channels[c] = true ↔
      MeasurementDiffers old.channels[c] new.channels[c] := by simp [measurementChanged, MeasurementDiffers, or_assoc]
  have hd : detectionChanged old.channels[c] new.channels[c] = true ↔
      DetectionDiffers old.channels[c] new.channels[c] := by simp [detectionChanged, DetectionDiffers, or_assoc]
  rw [installKey_key]
  simp only [InstallRow, installCase, ← groupingChanged_iff ho hn c, ← hm, ← hd, ← listed_iff_mem]
  cases old.listed c <;> cases new.listed c <;> cases measurementChanged old.channels[c] new.channels[c] <;>
    cases groupingChanged old new c <;> cases detectionChanged old.channels[c] new.channels[c] <;> simp

/-- The group an install leaves (8, R145). -/
theorem installGroup_group {old new : Configuration} (ho : old.valid = true) (hn : new.valid = true)
    (keys : Vector KeyRecord 24) (g : GroupId) (run : GroupRun) :
    InstalledGroup old.groups[g] new.groups[g] keys run (installGroup old new keys g run).1 := by
  have dd := definitionChanged_iff (kind_zero_iff ho g) (kind_zero_iff hn g)
  simp only [InstalledGroup, ← dd, installGroup]
  constructor
  · intro h; rw [if_pos h]
  · intro h
    rw [if_neg h]
    simp only [releasedGroup, membersIn_pressed_eq_nil]
    simp
    split <;> simp_all

/-! ## Records -/

/-- The records of a key at an install: those of a forced transition, where its state changes (8, R144). -/
theorem installKey_records (old new : Configuration) (c : Channel) (k : KeyRecord) (hn : k.NearFits)
    (ho : k.state = .off ↔ old.listed c = false) :
    (installKey old new c k).2 =
      if (installKey old new c k).1.state ≠ k.state then forcedRecords (old.sliderMember c) 0x05 c k else [] := by
  have far : ∀ st, KeyState.handThere st = false → k.state = st → k.near = false := by
    intro st h1 h2
    cases hx : k.near
    · rfl
    · have := hn.2 hx; rw [h2, h1] at this; cases this
  unfold installKey
  cases hi : installCase old new c
  · have : old.listed c = true := by
      simp only [installCase] at hi
      cases h : old.listed c
      · simp [h] at hi; split at hi <;> simp_all
      · rfl
    have : k.state ≠ .off := by rw [Ne, ho]; simp [this]
    simp only [forced_to_off]
    rw [if_pos (by simpa [KeyRecord.atOff] using this.symm)]; rfl
  · have : old.listed c = false := by
      simp only [installCase] at hi
      cases h : old.listed c
      · rfl
      · simp [h] at hi; repeat' split at hi
        all_goals simp_all
    have h0 := ho.2 this
    simp [moveKey_cal, far _ rfl h0, forcedRecords, h0]
  · simp only [forced_to_cal]
    by_cases h : k.state = .cal
    · simp [h, KeyRecord.atCal, forcedRecords, far _ rfl h]
    · rw [if_pos (by simpa [KeyRecord.atCal] using Ne.symm h)]; rfl
  · by_cases h : leavesWhenRegrouped k.state = true
    · have : k.state ≠ .idle := by intro hh; simp [hh, leavesWhenRegrouped] at h
      simp only [h, if_true, forced_to_idle]
      rw [if_pos (by simpa [clearDebounce, KeyRecord.atIdle] using this.symm)]; rfl
    · simp [h, clearDebounce]
  · simp [clearDebounce]
  · simp

theorem hasPosition_of_unchanged {old new : GroupDef} (h : ¬ definitionChanged old new = true) :
    new.hasPosition = old.hasPosition := by
  unfold definitionChanged at h
  split at h
  · next h2 => simp [GroupDef.hasPosition, h2.1, h2.2]
  · have hk : old.kind = new.kind := by by_contra hx; simp [hx] at h
    simp [GroupDef.hasPosition, GroupDef.groupKind, hk]

/-- The record of a group at an install: its release, where it was touched and no longer is (8, R145). -/
theorem installGroup_records (old new : Configuration) (keys : Vector KeyRecord 24) (g : GroupId) (run : GroupRun) :
    (installGroup old new keys g run).2 =
      if old.groups[g].hasPosition = true ∧ run.touched = true ∧
          (installGroup old new keys g run).1.touched = false then
        [⟨.groupRelease, idByte g, shownPosition run.position, 0x05⟩] else [] := by
  unfold installGroup
  split
  · simp [GroupRun.cleared, and_comm, groupReleaseRecord, ReleaseCause.code]
  · next h =>
    have hp := hasPosition_of_unchanged h
    unfold releasedGroup
    rw [hp]
    by_cases h1 : run.touched = true <;> by_cases h2 : membersIn .pressed new.groups[g].memberList keys = [] <;>
      by_cases h3 : old.groups[g].hasPosition = true <;>
      simp_all [GroupRun.cleared, groupReleaseRecord, ReleaseCause.code]

/-! ## The whole install -/

theorem State.installCopy_keys (s : State) (new : Configuration) (c : Channel) :
    (s.installCopy new).keys[c] = (installKey s.live new c s.keys[c]).1 := by
  simp [State.installCopy]

theorem State.installCopy_groups (s : State) (new : Configuration) (g : GroupId) :
    (s.installCopy new).groups[g] = (installGroup s.live new (s.installCopy new).keys g s.groups[g]).1 := by
  simp [State.installCopy]

/-- The records of an install up to the groups' (8, R147). -/
theorem State.installCopy_queue {s : State} {new : Configuration} (hn : s.NearFits) (ho : s.OffUnlisted) :
    (s.installCopy new).queue = s.queue.offerAll
      ((new.scanList ++ allChannels.filter fun c => s.live.listed c && !new.listed c).flatMap (fun c =>
          if (s.installCopy new).keys[c].state ≠ s.keys[c].state then
            forcedRecords (s.live.sliderMember c) 0x05 c s.keys[c] else [])
        ++ allGroups.flatMap (fun g =>
          if s.live.groups[g].hasPosition = true ∧ s.groups[g].touched = true ∧
              (s.installCopy new).groups[g].touched = false then
            [⟨.groupRelease, idByte g, shownPosition s.groups[g].position, 0x05⟩] else [])) := by
  have e : (s.installCopy new).queue = s.queue.offerAll
      ((installOrder s.live new).flatMap (fun c => (installKey s.live new c s.keys[c]).2) ++
        allGroups.flatMap fun g => (installGroup s.live new (s.installCopy new).keys g s.groups[g]).2) := by
    simp [State.installCopy]
  rw [e]
  congr 2
  · exact List.flatMap_congr fun c _ => by rw [installKey_records _ _ _ _ (hn c) (ho c), State.installCopy_keys]
  · exact List.flatMap_congr fun g _ => by rw [installGroup_records, State.installCopy_groups]

/-- The whole install of a valid configuration over a valid one. -/
theorem State.install_installed {s : State} {new : Configuration} (ho : s.live.valid = true) (hv : new.valid = true)
    (hn : s.NearFits) (hu : s.OffUnlisted) :
    Installed s new [] (s.install new) ∧ (s.install new).engine.current = s.engine.current ∧
      (s.install new).scan =
        (if s.scan.mode = .doze then { s.scan with mode := .active, inactivity := 0 } else s.scan) := by
  have hk : (s.install new).keys = (s.installCopy new).keys := by simp [State.install]
  have hg : (s.install new).groups = (s.installCopy new).groups := by simp [State.install]
  refine ⟨⟨?_, ?_, ?_, ?_, ?_, ?_⟩, ?_, ?_⟩
  · simp [State.install, State.installCopy]
  · intro c; simp [State.install, State.installCopy, hopIntoSet]
  · intro c
    rw [hk, State.installCopy_keys]
    exact installKey_row ho hv c _
  · intro g
    rw [hg, hk, State.installCopy_groups]
    exact installGroup_group ho hv _ g _
  · simp [State.install, State.leaveBusy, CommandName.code, CommandUnit.reporting]
  · have hq : (s.install new).queue =
        ((s.installCopy new).queue.offerAll (if s.scan.mode = .doze then [⟨.mode, 1, 0x03, 0xFF⟩] else [])).offer
          ⟨.cmdDone, 0x03, 0x02, 0⟩ := by
      simp [State.install, State.wakeByInstall, cmdDoneRecord, ResultCode.code, CommandName.code]
      split <;> simp [modeRecord, Mode.code, ModeCause.code]
    rw [hq, hk, hg, State.installCopy_queue hn hu]
    simp [EventQueue.offerAll_append]
  · simp [State.install, State.installCopy]
  · simp [State.install, State.wakeByInstall]
    split <;> simp [State.clearInactivity]

end Sys2Proof.Machine
end

