-- ==== Sys2Proof/Laws/Power.lean ====
section
/-! SUPPORT. No byte's effect reads the power condition (12, R185): every shared operation on the way of a byte has the
same effect whatever the power condition is, and keeps it. -/

namespace Sys2Proof.Machine

variable (s : State) (p : Power)

/-! ## Updates and readings -/
@[simp] theorem State.withPort_withPower (x : HostPort) :
    (s.withPower p).withPort x = (s.withPort x).withPower p := rfl
@[simp] theorem State.withStore_withPower (x : ConfigStore) :
    (s.withPower p).withStore x = (s.withStore x).withPower p := rfl
@[simp] theorem State.withEngine_withPower (x : Engine) :
    (s.withPower p).withEngine x = (s.withEngine x).withPower p := rfl
@[simp] theorem State.withScan_withPower (x : ScanController) :
    (s.withPower p).withScan x = (s.withScan x).withPower p := rfl
@[simp] theorem State.withKeys_withPower (x : Vector KeyRecord 24) :
    (s.withPower p).withKeys x = (s.withKeys x).withPower p := rfl
@[simp] theorem State.withGroups_withPower (x : Vector GroupRun 6) :
    (s.withPower p).withGroups x = (s.withGroups x).withPower p := rfl
@[simp] theorem State.withQueue_withPower (x : EventQueue) :
    (s.withPower p).withQueue x = (s.withQueue x).withPower p := rfl
@[simp] theorem State.withCommand_withPower (x : CommandUnit) :
    (s.withPower p).withCommand x = (s.withCommand x).withPower p := rfl
@[simp] theorem State.withTrimRun_withPower (x : Option TrimRun) :
    (s.withPower p).withTrimRun x = (s.withTrimRun x).withPower p := rfl
@[simp] theorem State.withLines_withPower (x : Vector IndicatorLine 8) :
    (s.withPower p).withLines x = (s.withLines x).withPower p := rfl
@[simp] theorem State.withFreeDraws_withPower (x : Nat) :
    (s.withPower p).withFreeDraws x = (s.withFreeDraws x).withPower p := rfl
@[simp] theorem State.withPending_withPower (x : List Instr) :
    (s.withPower p).withPending x = (s.withPending x).withPower p := rfl
@[simp] theorem State.live_withPower :
    (s.withPower p).live = s.live := rfl
@[simp] theorem State.busy_withPower :
    (s.withPower p).busy = s.busy := rfl
@[simp] theorem State.targetLevel_withPower (l : IndicatorLine) :
    (s.withPower p).targetLevel l = s.targetLevel l := rfl
@[simp] theorem State.wakeKey_withPower :
    (s.withPower p).wakeKey = s.wakeKey := rfl
@[simp] theorem State.dozeBlocked_withPower :
    (s.withPower p).dozeBlocked = s.dozeBlocked := rfl
@[simp] theorem State.liveByte_withPower (a : Byte) :
    (s.withPower p).liveByte a = s.liveByte a := rfl
@[simp] theorem State.copyField_withPower (f : LatchedField) :
    (s.withPower p).copyField f = s.copyField f := rfl
@[simp] theorem State.startsAtCompletion_withPower (k : RoundKind) :
    (s.withPower p).startsAtCompletion k = s.startsAtCompletion k := rfl

/-! ## Effects -/

@[simp] theorem State.offer_withPower (r : EventRecord) :
    (s.withPower p).offer r = (s.offer r).withPower p := rfl
@[simp] theorem State.offerAll_withPower (rs : List EventRecord) :
    (s.withPower p).offerAll rs = (s.offerAll rs).withPower p := rfl
@[simp] theorem State.changeMode_withPower (m : Mode) (c : ModeCause) (b : Byte) :
    (s.withPower p).changeMode m c b = (s.changeMode m c b).withPower p := rfl
@[simp] theorem State.clearInactivity_withPower :
    (s.withPower p).clearInactivity = (s.clearInactivity).withPower p := rfl
@[simp] theorem State.endCommand_withPower (code : Byte) (r : ResultCode) (d : Byte) :
    (s.withPower p).endCommand code r d = (s.endCommand code r d).withPower p := by
  unfold State.endCommand; (repeat' split) <;> simp_all
@[simp] theorem State.enterBusy_withPower (n : CommandName) (w : Work) :
    (s.withPower p).enterBusy n w = (s.enterBusy n w).withPower p := rfl
@[simp] theorem State.leaveBusy_withPower :
    (s.withPower p).leaveBusy = (s.leaveBusy).withPower p := rfl
@[simp] theorem State.request_withPower (q : Requester) (c : Channel) (t : BitVec 6) :
    (s.withPower p).request q c t = (s.request q c t).withPower p := rfl
@[simp] theorem State.requestScan_withPower (c : Channel) :
    (s.withPower p).requestScan c = (s.requestScan c).withPower p := rfl
@[simp] theorem State.abandonMeasurement_withPower :
    (s.withPower p).abandonMeasurement = (s.abandonMeasurement).withPower p := rfl
@[simp] theorem State.abandonRound_withPower :
    (s.withPower p).abandonRound = (s.abandonRound).withPower p := rfl
@[simp] theorem State.pointAfter_withPower (a : Byte) (d : Direction) :
    (s.withPower p).pointAfter a d = (s.pointAfter a d).withPower p := rfl
@[simp] theorem State.evaluate_withPower (rs : List MeasResult) :
    (s.withPower p).evaluate rs = (s.evaluate rs).withPower p := rfl
@[simp] theorem State.forceKeys_withPower (cs : List Channel) (move : Channel → KeyRecord → KeyOutcome) :
    (s.withPower p).forceKeys cs move = (s.forceKeys cs move).withPower p := rfl
@[simp] theorem State.followGroups_withPower (cause : ReleaseCause) :
    (s.withPower p).followGroups cause = (s.followGroups cause).withPower p := rfl
@[simp] theorem State.releaseForStop_withPower :
    (s.withPower p).releaseForStop = (s.releaseForStop).withPower p := rfl
@[simp] theorem State.releaseForDoze_withPower :
    (s.withPower p).releaseForDoze = (s.releaseForDoze).withPower p := rfl
@[simp] theorem State.sendToCal_withPower (cs : List Channel) :
    (s.withPower p).sendToCal cs = (s.sendToCal cs).withPower p := rfl
@[simp] theorem State.installCopy_withPower (new : Configuration) :
    (s.withPower p).installCopy new = (s.installCopy new).withPower p := rfl
@[simp] theorem State.wakeByInstall_withPower :
    (s.withPower p).wakeByInstall = (s.wakeByInstall).withPower p := by
  unfold State.wakeByInstall; (repeat' split) <;> simp_all
@[simp] theorem State.install_withPower (new : Configuration) :
    (s.withPower p).install new = (s.install new).withPower p := by
  simp [State.install]
@[simp] theorem State.countRound_withPower :
    (s.withPower p).countRound = (s.countRound).withPower p := rfl
@[simp] theorem State.advanceRecal_withPower :
    (s.withPower p).advanceRecal = (s.advanceRecal).withPower p := by
  unfold State.advanceRecal; simp; (repeat' split) <;> simp_all
@[simp] theorem State.setDozeTimer_withPower :
    (s.withPower p).setDozeTimer = (s.setDozeTimer).withPower p := rfl
@[simp] theorem State.countInactivity_withPower :
    (s.withPower p).countInactivity = (s.countInactivity).withPower p := rfl
@[simp] theorem State.inactivityCheck_withPower :
    (s.withPower p).inactivityCheck = (s.inactivityCheck).withPower p := by
  have e : (s.withPower p).inactivityCheck =
      if s.countInactivity.live.globals.dozeAfter.toNat ≠ 0 ∧
          8 * s.countInactivity.live.globals.dozeAfter.toNat ≤ s.countInactivity.scan.inactivity then
        ((s.countInactivity.changeMode .doze .inactivity 0xFF).setDozeTimer).withPower p
      else s.countInactivity.withPower p := rfl
  have e' : s.inactivityCheck =
      if s.countInactivity.live.globals.dozeAfter.toNat ≠ 0 ∧
          8 * s.countInactivity.live.globals.dozeAfter.toNat ≤ s.countInactivity.scan.inactivity then
        (s.countInactivity.changeMode .doze .inactivity 0xFF).setDozeTimer
      else s.countInactivity := rfl
  rw [e, e']
  split <;> rfl
@[simp] theorem State.wakeKeyCheck_withPower :
    (s.withPower p).wakeKeyCheck = (s.wakeKeyCheck).withPower p := by
  unfold State.wakeKeyCheck; (repeat' split) <;> simp_all
@[simp] theorem State.finishRound_withPower (k : RoundKind) (rs : List MeasResult) :
    (s.withPower p).finishRound k rs = (s.finishRound k rs).withPower p := by
  unfold State.finishRound; (repeat' split) <;> simp_all
@[simp] theorem State.installPending_withPower :
    (s.withPower p).installPending = (s.installPending).withPower p := by
  unfold State.installPending; (repeat' split) <;> simp_all
@[simp] theorem State.launchRound_withPower :
    (s.withPower p).launchRound = (s.launchRound).withPower p := by
  unfold State.launchRound; simp; (repeat' split) <;> simp_all
@[simp] theorem State.startRound_withPower :
    (s.withPower p).startRound = (s.startRound).withPower p := by
  simp [State.startRound]
@[simp] theorem State.refuse_withPower (n : CommandName) (r : ResultCode) :
    (s.withPower p).refuse n r = (s.refuse n r).withPower p := by
  simp [State.refuse]
@[simp] theorem State.stopTimer_withPower :
    (s.withPower p).stopTimer = (s.stopTimer).withPower p := rfl
@[simp] theorem State.leaveDoze_withPower :
    (s.withPower p).leaveDoze = (s.leaveDoze).withPower p := by
  unfold State.leaveDoze; (repeat' split) <;> simp_all
@[simp] theorem State.requestTrim_withPower (t : TrimRun) :
    (s.withPower p).requestTrim t = (s.requestTrim t).withPower p := by
  unfold State.requestTrim; (repeat' split) <;> simp_all
@[simp] theorem State.cancelTrim_withPower :
    (s.withPower p).cancelTrim = (s.cancelTrim).withPower p := rfl
@[simp] theorem State.takeStart_withPower :
    (s.withPower p).takeStart = (s.takeStart).withPower p := by
  unfold State.takeStart; (repeat' split) <;> simp_all
@[simp] theorem State.takeStop_withPower :
    (s.withPower p).takeStop = (s.takeStop).withPower p := by
  unfold State.takeStop; (repeat' split) <;> simp_all
@[simp] theorem State.takeCommit_withPower :
    (s.withPower p).takeCommit = (s.takeCommit).withPower p := by
  unfold State.takeCommit; (repeat' split) <;> simp_all
@[simp] theorem State.recalKeys_withPower (cs : List Channel) :
    (s.withPower p).recalKeys cs = (s.recalKeys cs).withPower p := by
  unfold State.recalKeys; (repeat' split) <;> simp_all
@[simp] theorem State.takeRecal_withPower :
    (s.withPower p).takeRecal = (s.takeRecal).withPower p := by
  unfold State.takeRecal; (repeat' split) <;> simp_all
@[simp] theorem State.takeTrim_withPower :
    (s.withPower p).takeTrim = (s.takeTrim).withPower p := by
  unfold State.takeTrim; (repeat' split) <;> simp_all
@[simp] theorem State.takeDoze_withPower :
    (s.withPower p).takeDoze = (s.takeDoze).withPower p := by
  unfold State.takeDoze; (repeat' split) <;> simp_all
@[simp] theorem State.takeWake_withPower :
    (s.withPower p).takeWake = (s.takeWake).withPower p := by
  unfold State.takeWake; (repeat' split) <;> simp_all
@[simp] theorem State.takeFlush_withPower :
    (s.withPower p).takeFlush = (s.takeFlush).withPower p := by
  simp [State.takeFlush]
@[simp] theorem State.takeAbort_withPower :
    (s.withPower p).takeAbort = (s.takeAbort).withPower p := by
  unfold State.takeAbort; (repeat' split) <;> simp_all
@[simp] theorem State.takeReset_withPower :
    (s.withPower p).takeReset = (s.takeReset).withPower p := by
  unfold State.takeReset; (repeat' split) <;> simp_all
@[simp] theorem State.rejectCommand_withPower :
    (s.withPower p).rejectCommand = (s.rejectCommand).withPower p := rfl
@[simp] theorem State.takeCommand_withPower (n : CommandName) :
    (s.withPower p).takeCommand n = (s.takeCommand n).withPower p := by
  unfold State.takeCommand; (repeat' split) <;> simp_all
@[simp] theorem State.commandRequest_withPower (code : Byte) :
    (s.withPower p).commandRequest code = (s.commandRequest code).withPower p := by
  unfold State.commandRequest; (repeat' split) <;> simp_all
@[simp] theorem State.ignoreWrite_withPower :
    (s.withPower p).ignoreWrite = (s.ignoreWrite).withPower p := rfl
@[simp] theorem State.setLine_withPower (i : LineId) (l : IndicatorLine) :
    (s.withPower p).setLine i l = (s.setLine i l).withPower p := rfl
@[simp] theorem State.writeIndicator_withPower (i : LineId) (it : IndicatorItem) (v : Byte) :
    (s.withPower p).writeIndicator i it v = (s.writeIndicator i it v).withPower p := by
  unfold State.writeIndicator; (repeat' split) <;> simp_all
@[simp] theorem State.writeFade_withPower (i : LineId) (v : Byte) :
    (s.withPower p).writeFade i v = (s.writeFade i v).withPower p := by
  unfold State.writeFade; (repeat' split) <;> simp_all
@[simp] theorem State.writeFilter_withPower (v : Byte) :
    (s.withPower p).writeFilter v = (s.writeFilter v).withPower p := rfl
@[simp] theorem State.writeAttnMode_withPower (v : Byte) :
    (s.withPower p).writeAttnMode v = (s.writeAttnMode v).withPower p := by
  unfold State.writeAttnMode; (repeat' split) <;> simp_all
@[simp] theorem State.writePage_withPower (v : Byte) :
    (s.withPower p).writePage v = (s.writePage v).withPower p := rfl
@[simp] theorem State.writeArg0_withPower (v : Byte) :
    (s.withPower p).writeArg0 v = (s.writeArg0 v).withPower p := rfl
@[simp] theorem State.writeArg1_withPower (v : Byte) :
    (s.withPower p).writeArg1 v = (s.writeArg1 v).withPower p := rfl
@[simp] theorem State.writeSticky_withPower (v : Byte) :
    (s.withPower p).writeSticky v = (s.writeSticky v).withPower p := rfl
@[simp] theorem State.writeCommon_withPower (a : Nat) (v : Byte) :
    (s.withPower p).writeCommon a v = (s.writeCommon a v).withPower p := by
  unfold State.writeCommon; (repeat' split) <;> simp_all
@[simp] theorem State.writeStaging_withPower (pg a : Nat) (v : Byte) :
    (s.withPower p).writeStaging pg a v = (s.writeStaging pg a v).withPower p := by
  unfold State.writeStaging; (repeat' split) <;> simp_all
@[simp] theorem State.writeLinePage_withPower (a : Nat) (v : Byte) :
    (s.withPower p).writeLinePage a v = (s.writeLinePage a v).withPower p := by
  unfold State.writeLinePage; (repeat' split) <;> simp_all
@[simp] theorem State.writePaged_withPower (pg a : Nat) (v : Byte) :
    (s.withPower p).writePaged pg a v = (s.writePaged pg a v).withPower p := by
  unfold State.writePaged; (repeat' split) <;> simp_all
@[simp] theorem State.writeAt_withPower (a v : Byte) :
    (s.withPower p).writeAt a v = (s.writeAt a v).withPower p := by
  unfold State.writeAt; (repeat' split) <;> simp_all
@[simp] theorem State.send_withPower (b : Byte) :
    (s.withPower p).send b = (s.send b).withPower p := rfl
@[simp] theorem State.readField_withPower (f : LatchedField) (a : Byte) :
    (s.withPower p).readField f a = (s.readField f a).withPower p := by
  unfold State.readField; (repeat' split) <;> simp_all
@[simp] theorem State.readKind_withPower :
    (s.withPower p).readKind = (s.readKind).withPower p := by
  unfold State.readKind; (repeat' split) <;> simp_all
@[simp] theorem State.readValueB_withPower :
    (s.withPower p).readValueB = (s.readValueB).withPower p := rfl
@[simp] theorem State.readAt_withPower (a : Byte) :
    (s.withPower p).readAt a = (s.readAt a).withPower p := by
  unfold State.readAt; (repeat' split) <;> simp_all

/-! ## Whole bytes -/

@[simp] theorem State.driveFrom_withPower (b : State) (q : Power) :
    State.driveFrom (b.withPower q) (s.withPower p) = (State.driveFrom b s).withPower p := rfl

@[simp] theorem State.hostWrite_withPower (a v : Byte) :
    (s.withPower p).hostWrite a v = (s.hostWrite a v).withPower p := by
  simp [State.hostWrite]

@[simp] theorem State.hostRead_withPower (a : Byte) : (s.withPower p).hostRead a = (s.hostRead a).withPower p := by
  simp [State.hostRead]

@[simp] theorem State.setPointer_withPower (v : Byte) :
    (s.withPower p).setPointer v = (s.setPointer v).withPower p := rfl

end Sys2Proof.Machine
end

