-- ==== Sys2Proof/Laws/Rounds.lean ====
section
/-! SUPPORT. What the end and the start of a round answer (2, R22, R26), once for each: the stages of a completion, the
inactivity check, the wake key, and the start that installs a pending commit. -/

namespace Sys2Proof.Machine

/-! ## Stages 1 and 2 of a completion -/

theorem KeyState.quiet_iff (k : KeyState) : k.quiet = true ↔ k = .off ∨ k = .idle ∨ k = .fault := by
  cases k <;> simp [KeyState.quiet]

/-- A waiting RECAL after an evaluation (4, R75). -/
theorem State.advanceRecal_eq (s : State) :
    s.advanceRecal =
      (s.withCommand (s.command.afterEvaluation s.keys).1).offerAll (s.command.afterEvaluation s.keys).2 := by
  unfold State.advanceRecal CommandUnit.afterEvaluation
  rcases h : s.command.inProgress with _ | ⟨work, a, b⟩
  · rfl
  · rcases work with _ | _ | ⟨waiting, faulted⟩
    · rfl
    · rfl
    · have hcnt : ((waiting.filter fun c => s.keys[c].state != .cal).filter fun c => s.keys[c].state == .fault).length
          = (waiting.filter fun c => s.keys[c].state == .fault).length := by
        simp only [List.filter_filter]
        congr 2; ext c
        cases s.keys[c].state <;> simp
      simp only [hcnt]
      split
      · simp [State.leaveBusy, State.endCommand, State.busy, CommandName.code, cmdDoneRecord, ResultCode.code,
          CommandUnit.reporting, State.withCommand, State.offerAll, State.offer]
      · rfl

/-- The state after stages 1 and 2 of a completion: the round counted and evaluated, a waiting RECAL advanced. -/
def State.evaluated (s : State) (rs : List MeasResult) : State :=
  let e := s.evaluate rs
  let unit := s.command.afterEvaluation e.keys
  { s with
    keys := e.keys
    groups := e.groups
    command := unit.1
    queue := e.queue.offerAll unit.2
    scan := { s.scan with counter := s.scan.counter + 1, round := none } }

theorem State.stages_eq (s : State) (rs : List MeasResult) :
    (s.countRound.evaluate rs).advanceRecal = s.evaluated rs := by
  obtain ⟨wk, wg, wq⟩ := State.evaluate_congr (s := s) (u := s.countRound) rs (by simp [State.countRound])
    (by simp [State.countRound]) (by simp [State.countRound]) (by simp [State.countRound])
  rw [State.advanceRecal_eq]
  apply State.eq_of_fields <;> simp [State.evaluated, wk, wg, wq]
  simp [State.countRound]

/-- The stages read nothing of the controller but its round counter. -/
theorem State.evaluated_withScan (s : State) (sc : ScanController) (rs : List MeasResult) :
    (s.withScan sc).evaluated rs =
      { s.evaluated rs with scan := { sc with counter := sc.counter + 1, round := none } } := by
  obtain ⟨uk, ug, uq⟩ := State.evaluate_congr (s := s) (u := s.withScan sc) rs (by simp) (by simp) (by simp) (by simp)
  simp only [State.evaluated, uk, ug, uq]
  rfl

/-- The stages read nothing of the engine. -/
theorem State.evaluated_abandonMeasurement (s : State) (rs : List MeasResult) :
    s.abandonMeasurement.evaluated rs = { s.evaluated rs with engine := { s.engine with current := none } } := by
  obtain ⟨uk, ug, uq⟩ := State.evaluate_congr (s := s) (u := s.abandonMeasurement) rs (by simp) (by simp) (by simp)
    (by simp)
  simp only [State.evaluated, uk, ug, uq]
  rfl

/-- The last result of a round completes it. -/
theorem State.endConversion_last {s : State} {m : Measurement} {r : Round} {cycles : Nat}
    (h : s.LastResult m r cycles) :
    s.endConversion cycles = s.abandonMeasurement.completeRound r.kind (r.results ++ [m.resultWith cycles]) := by
  obtain ⟨hm, hq, ⟨hl, hv⟩, hr, hlen⟩ := h
  rw [State.endConversion_scan cycles hm hq hl hv]
  simp only [State.receiveScan, State.abandonMeasurement_frame, hr]
  have : r.measured.drop (r.results ++ [m.resultWith cycles]).length = [] := by simp; omega
  simp only [Measurement.resultWith, Measurement.countsWith] at this ⊢
  rw [this]

/-! ## Stage 3 -/

theorem State.countInactivity_eq (s : State) :
    s.countInactivity = s.withScan { s.scan with inactivity := quietCount s.keys s.scan.inactivity } := by
  unfold State.countInactivity quietCount
  congr 2
  by_cases hq : allQuiet s.keys = true
  · rw [if_pos hq, if_pos fun c => (KeyState.quiet_iff _).1 ((allQuiet_iff _).1 hq c)]
  · rw [if_neg hq, if_neg fun h => hq ((allQuiet_iff _).2 fun c => (KeyState.quiet_iff _).2 (h c))]

/-- The inactivity check where the count reaches the limit (10, R161). -/
theorem State.inactivityCheck_of_dozes {s : State} (h : dozesAt s.live (quietCount s.keys s.scan.inactivity)) :
    s.inactivityCheck =
      (s.withScan { s.scan with
        inactivity := quietCount s.keys s.scan.inactivity, mode := .doze,
        timer := some (10 * s.live.globals.dozePeriod.toNat), due := false }).offer ⟨.mode, 2, 0x01, 0xFF⟩ := by
  simp only [State.inactivityCheck, State.countInactivity_eq, State.withScan_scan,
    State.live_of_store (State.withScan_store _ _)]
  rw [if_pos h]
  rfl

/-- The inactivity check where the count stays below the limit (10, R160). -/
theorem State.inactivityCheck_of_stays {s : State} (h : ¬ dozesAt s.live (quietCount s.keys s.scan.inactivity)) :
    s.inactivityCheck = s.withScan { s.scan with inactivity := quietCount s.keys s.scan.inactivity } := by
  simp only [State.inactivityCheck, State.countInactivity_eq, State.withScan_scan,
    State.live_of_store (State.withScan_store _ _)]
  rw [if_neg h]

theorem State.wakeKey_eq (s : State) : s.wakeKey = s.live.wakingKey s.keys := by
  simp only [State.wakeKey, Configuration.wakingKey, Configuration.measuredChannels, List.find?_filter]
  congr 1; ext c
  cases s.keys[c].state <;> simp [KeyState.quiet]

theorem State.finishRound_active (s : State) (rs : List MeasResult) :
    s.finishRound .active rs = (s.evaluated rs).inactivityCheck := by
  simp only [State.finishRound, State.stages_eq]

theorem State.finishRound_doze (s : State) (rs : List MeasResult) :
    s.finishRound .doze rs = (s.evaluated rs).wakeKeyCheck := by
  simp only [State.finishRound, State.stages_eq]

/-! ## The start of a round -/

/-- The start of a round with no commit pending and no channel to measure: it completes at once (2, R26). -/
theorem State.startRound_empty {s : State} (hs : s.store.snapshot = none)
    (h : s.live.measuredChannels (roundKindOf s.scan.mode) = []) :
    s.startRound =
      (s.withScan { s.scan with
        round := some ⟨roundKindOf s.scan.mode, [], []⟩
        timer := some (s.live.period (roundKindOf s.scan.mode))
        due := false }).finishRound (roundKindOf s.scan.mode) [] := by
  have e : s.installPending = s := by simp [State.installPending, hs]
  simp only [State.startRound, e, State.launchRound, h]

/-- An evaluation with no result over an empty valid list changes nothing. -/
theorem State.evaluate_empty {s : State} (h : s.live.valid = true) (he : s.live.scanList = []) :
    s.evaluate [] = s := by
  have ng := groupKind_of_empty h he
  have h1 : steppedKeys s.live [] s.keys = s.keys := by
    apply table_ext; intro i; simp [steppedKeys, steppedKey]
  have h2 : ∀ l : List GroupId, ∀ ks p, l.foldl (fun ks g => groupKeys s.live p ks g) ks = ks := by
    intro l
    induction l with
    | nil => simp
    | cons a b ih =>
      intro ks p
      have : groupKeys s.live p ks a = ks := by simp only [groupKeys, ng a]
      rw [List.foldl_cons, this]
      exact ih _ _
  have h3 : ∀ ks g run, groupStage s.live ks g run = (run, []) := by
    intro ks g run; simp only [groupStage, ng g]
  have h4 : stageKeys s.live s.keys s.keys = s.keys := h2 _ _ _
  have h5 : ∀ l : List GroupId, l.flatMap (fun _ => ([] : List EventRecord)) = [] := by
    intro l; induction l <;> simp_all
  apply State.eq_of_fields <;> simp [State.evaluate, h1, h4, h3, he, h5]
  apply table_ext; intro i; simp

/-- The start of a round with a commit pending. -/
theorem State.startRound_installs {u : State} {new : Configuration} (hm : u.scan.mode = .active ∨ u.scan.mode = .doze)
    (ho : u.live.valid = true) (hv : new.valid = true) (hn : u.NearFits) (hu : u.OffUnlisted)
    (hs : u.store.snapshot = some new) : InstallStarts u new u.startRound := by
  obtain ⟨hI, hcur, hscan⟩ := State.install_installed ho hv hn hu
  have hst : (u.install new).store = { u.store with live := new, snapshot := none } := hI.1
  have hlive : (u.install new).live = new := by simp [State.live, hst]
  have hmode : (u.install new).scan.mode = .active := by rw [hscan]; rcases hm with h | h <;> simp [h]
  have hip : u.startRound = (u.install new).launchRound := by simp [State.startRound, State.installPending, hs]
  rw [hip]
  have hoff : ∀ c : Channel, new.scanList = [] → (u.install new).keys[c].state = .off := by
    intro c hl
    obtain ⟨r1, -, -, -, -, -, r7⟩ := hI.2.2.1 c
    by_cases hw : c ∈ u.live.scanList
    · rw [r1 hw (by simp [hl])]; rfl
    · rw [r7 hw (by simp [hl])]
      exact (hu c).2 (by simpa using fun x => hw ((listed_iff_mem _ _).1 x))
  refine ⟨fun c rest hl => ?_, fun hl hd => ?_, fun hl hd => ?_⟩
  · have e : (u.install new).launchRound =
        ((u.install new).withScan { (u.install new).scan with
          round := some ⟨.active, c :: rest, []⟩, timer := some new.globals.roundPeriod.toNat,
          due := false }).requestScan c := by
      simp only [State.launchRound, hmode, hlive, roundKindOf, Configuration.measuredChannels, hl,
        Configuration.period]
      simp
    rw [e]
    refine ⟨?_, ?_, ?_⟩
    · simpa [Installed] using hI
    · simp [State.live, hst]
    · simp [hscan]; rcases hm with h | h <;> simp [h]
  all_goals
    have e : (u.install new).launchRound =
        ((u.install new).withScan { (u.install new).scan with
          round := some ⟨.active, [], []⟩, timer := some new.globals.roundPeriod.toNat,
          due := false }).finishRound .active [] := by
      simp only [State.launchRound, hmode, hlive, roundKindOf, Configuration.measuredChannels, hl,
        Configuration.period]
      simp
    rw [e, State.finishRound_active]
    obtain ⟨X, hX⟩ : ∃ X : State, X = (u.install new).withScan { (u.install new).scan with
        round := some ⟨.active, [], []⟩, timer := some new.globals.roundPeriod.toNat, due := false } := ⟨_, rfl⟩
    rw [← hX]
    have xl : X.live = new := by rw [hX]; simpa [State.live] using hlive
    have xcmd : X.command.inProgress = none := by rw [hX]; simp [hI.2.2.2.2.1]
    have hE : X.evaluated [] = X.withScan { X.scan with counter := X.scan.counter + 1, round := none } := by
      have hev : X.evaluate [] = X := State.evaluate_empty (by rw [xl]; exact hv) (by rw [xl]; exact hl)
      apply State.eq_of_fields <;> simp [State.evaluated, hev, CommandUnit.afterEvaluation, xcmd]
    rw [hE]
    obtain ⟨Y, hY⟩ : ∃ Y : State, Y = X.withScan { X.scan with counter := X.scan.counter + 1, round := none } :=
      ⟨_, rfl⟩
    rw [← hY]
    have hq : quietCount Y.keys Y.scan.inactivity =
        min 2040 ((if u.scan.mode = .doze then 0 else u.scan.inactivity) + 1) := by
      rw [quietCount, if_pos]
      · simp [hY, hX, hscan]; rcases hm with h | h <;> simp [h]
      · intro c; left; simpa [hY, hX] using hoff c hl
    have yl : Y.live = new := by rw [hY, ← xl]; rfl
  · rw [State.inactivityCheck_of_dozes (by rw [hq, yl]; exact hd), hq, yl]
    obtain ⟨i1, i2, i3, i4, i5, i6⟩ := hI
    refine ⟨⟨?_, ?_, ?_, ?_, ?_, ?_⟩, ?_, ?_⟩
    · simpa [hY, hX] using i1
    · simpa [hY, hX] using i2
    · simpa [hY, hX] using i3
    · simpa [hY, hX] using i4
    · simpa [hY, hX] using i5
    · simp [hY, hX, i6, EventQueue.offerAll_append]
    · simp [hY, hX, hcur]
    · simp [hY, hX, hscan]; rcases hm with h | h <;> simp [h]
  · rw [State.inactivityCheck_of_stays (by rw [hq, yl]; exact hd), hq]
    refine ⟨?_, ?_, ?_⟩
    · simpa [Installed, hY, hX] using hI
    · simp [hY, hX, hcur]
    · simp [hY, hX, hscan]; rcases hm with h | h <;> simp [h]

end Sys2Proof.Machine
end

