-- ==== Sys2Proof/Tests/Slice0.lean ====
section
/-! SUPPORT. Tests: ill-formed terms, one step of each command on small states (expected values from the manual's rules
and worked examples), and for each obligation with hypotheses a state and operands that meet them. -/

namespace Sys2Proof.Tests

open Sys2Proof.Machine

/-! ## States to test on -/

/-- Six listed channels, 13 a wake channel with prox 15; group 0 EXCLUSIVE over 4 and 9, group 1 a SLIDER over 11, 12
and 13. -/
def panel : Configuration :=
  { Configuration.default with
    scan := ⟨6, tab fun i => [4, 9, 2, 11, 12, 13].getD i.val 0⟩
    channels := put Configuration.default.channels 13 { ChannelConfig.default 13 with wake := true, prox := 15 }
    groups := put (put Configuration.default.groups 0 ⟨1, 2, tab fun i => [4, 9].getD i.val 0, 1⟩)
      1 ⟨2, 3, tab fun i => [11, 12, 13].getD i.val 0, 10⟩ }

/-- The panel with every listed key in IDLE at baseline 600. -/
def panelAt (mode : Mode) : State :=
  { State.reset with
    store := ⟨panel, panel, none⟩
    scan := { ScanController.powerOn with
      mode := mode, timer := if mode = .active then some 20 else if mode = .doze then some 100 else none }
    keys := tab fun c =>
      if panel.listed c then { KeyRecord.powerOn with state := .idle, baseline := 600 } else KeyRecord.powerOn }

/-- `s` with the key of a channel as given. -/
def withKey (s : State) (c : Channel) (k : KeyRecord) : State := s.withKeys (put s.keys c k)

/-- `s` with the argument ARG0. -/
def withArg (s : State) (v : Byte) : State := s.withCommand { s.command with arg0 := v }

/-- `s` with the work in progress. -/
def busyWith (s : State) (w : Work) : State := s.withCommand { s.command with inProgress := some ⟨w, 0, 0⟩ }

/-- `s` in an open write transaction, with the register pointer and the page selector as given. -/
def pointing (s : State) (page pointer : Byte) : State :=
  s.withPort { s.port with page := page, pointer := pointer, transaction := some (.answered .write) }

/-- `s` with the records in its queue. -/
def queued (s : State) (rs : List EventRecord) : State := s.withQueue { s.queue with records := rs }

/-- The state a command leaves. -/
def after (i : Instr) (s : State) : State :=
  match exec i s with
  | .next t => t
  | .fault _ => s
  | .refused _ => s

/-- The panel in ACTIVE, the first round just started. -/
def running : State := after .start (panelAt .stopped)

/-! ## Well-formed terms -/

theorem test_wellFormed_refuses_unknown_code_that_is_known : (Instr.unknownCmd 0x01).wellFormed = false := by decide
theorem test_wellFormed_refuses_count_above_ceiling : (Instr.conversion 4096).wellFormed = false := by decide
theorem test_wellFormed_accepts_boundaries :
    ((Instr.unknownCmd 0x00).wellFormed && (Instr.unknownCmd 0x0B).wellFormed &&
      (Instr.conversion 4095).wellFormed) = true := by decide

/-! ## Commands, one step each -/

/-- R28: MODE(ACTIVE, COMMAND) and then CMD_DONE. -/
theorem test_start_reports :
    (after .start (panelAt .stopped)).queue.records = [⟨.mode, 1, 0, 0xFF⟩, ⟨.cmdDone, 0x01, 0x02, 0⟩] := by decide

/-- R124: an empty list. -/
theorem test_start_empty_list : (after .start State.reset).command.report = ⟨0x01, .emptyList, 0⟩ := by decide

/-- Chapter 5, STOP with a touched slider and an exclusive group: the order of the four records. -/
theorem test_stop_records :
    let s := panelAt .active
    let s := withKey s 4 { KeyRecord.powerOn with state := .pressed }
    let s := withKey s 11 { KeyRecord.powerOn with state := .pressed }
    let s := s.withGroups (put (put s.groups 0 ⟨true, none, none⟩) 1 ⟨true, some 99, some 94⟩)
    (after .stop s).queue.records =
      [⟨.keyUp, 4, 3, 0⟩, ⟨.groupRelease, 1, 99, 3⟩, ⟨.mode, 0, 0, 0xFF⟩, ⟨.cmdDone, 0x02, 0x02, 0⟩] := by decide

/-- Chapter 8, reading a validation failure: channel 9 with touch 30 and release 35 gives 155. -/
theorem test_commit_names_release_of_channel_9 :
    let cfg := { panel with
      channels := put panel.channels 9 { panel.channels[(9 : Channel)] with touch := 30, release := 35 } }
    (after .commit ((panelAt .stopped).withStore ⟨cfg, panel, none⟩)).command.report = ⟨0x03, .invalidConfig, 155⟩ := by
  decide

/-- Chapter 8, a commit while ACTIVE, here in STOPPED, where no key is pressed: a listed channel's new trim and a newly
listed channel enter CAL, a removed one enters OFF. -/
theorem test_commit_in_stopped_moves_keys :
    let cfg := { panel with
      scan := ⟨6, tab fun i => [4, 9, 7, 11, 12, 13].getD i.val 0⟩
      channels := put panel.channels 9 { panel.channels[(9 : Channel)] with trim := 22 } }
    let t := after .commit ((panelAt .stopped).withStore ⟨cfg, panel, none⟩)
    (t.keys[2].state, t.keys[4].state, t.keys[7].state, t.keys[9].state) = (.off, .idle, .cal, .cal) := by decide

/-- R72: 24 is no channel. -/
theorem test_recal_bad_argument :
    (after .recal (withArg (panelAt .active) 24)).command.report = ⟨0x04, .badArg, 0⟩ := by decide

/-- R73, R74: in STOPPED the target enters CAL and the command is done. -/
theorem test_recal_in_stopped :
    let t := after .recal (withArg (panelAt .stopped) 9)
    (t.keys[9].state, t.keys[4].state, t.command.report) = (.cal, .idle, ⟨0x04, .ok, 0⟩) := by decide

/-- R152, R153: pass 1 tries 32 on the first channel. -/
theorem test_trim_first_request :
    (after .trim (panelAt .stopped)).engine.current.map (fun m => (m.channel, m.trim)) = some (4, 32) := by decide

/-- R157: the report while the trim runs. -/
theorem test_trim_report : (after .trim (panelAt .stopped)).command.report = ⟨0x05, .pending, 0⟩ := by decide

/-- R163: MODE(DOZE, COMMAND) and CMD_DONE. -/
theorem test_doze_records :
    (after .doze (panelAt .active)).queue.records = [⟨.mode, 2, 0, 0xFF⟩, ⟨.cmdDone, 0x06, 0x02, 0⟩] := by decide

/-- R162: refused while a non-wake key is in CAL. -/
theorem test_doze_blocked_by_calibration :
    (after .doze (withKey (panelAt .active) 9 { KeyRecord.powerOn with state := .cal })).command.report =
      ⟨0x06, .wrongMode, 0⟩ := by decide

/-- R32, R127: with no round in flight the first ACTIVE round starts at once over the whole list. -/
theorem test_wake_starts_round :
    (after .wake (panelAt .doze)).scan.round = some ⟨.active, [4, 9, 2, 11, 12, 13], []⟩ := by decide

/-- Chapter 6, FLUSH during a hold: CMD_DONE with detail 2, and the hold VOID. -/
theorem test_flush_during_hold :
    let q := (after .flush (after .hold (queued (panelAt .active) [⟨.keyUp, 3, 0, 0⟩, ⟨.groupMove, 1, 61, 0⟩]))).queue
    (q.records, q.hold) = ([⟨.cmdDone, 0x08, 0x02, 2⟩], .void) := by decide

/-- R129: nothing to abort. -/
theorem test_abort_idle : (after .abort (panelAt .active)).command.report = ⟨0x09, .nothingPending, 0⟩ := by decide

/-- Chapter 9: ABORT in a trim gives MODE(STOPPED, COMMAND) and CMD_DONE(0x05, ABORTED, 0). -/
theorem test_abort_trim :
    (after .abort (after .flush (after .trim (panelAt .stopped)))).queue.records.drop 1 =
      [⟨.mode, 0, 0, 0xFF⟩, ⟨.cmdDone, 0x05, 0x07, 0⟩] := by decide

/-- R130: the argument 1 asks for the cold reset. -/
theorem test_reset_pending : (after .reset (withArg (panelAt .active) 1)).command.pendingReset = some .cold := by decide

/-- R124: the code and UNKNOWN_CMD in CMD_DONE. -/
theorem test_unknown_command :
    (after (.unknownCmd 0x0B) (panelAt .active)).queue.records = [⟨.cmdDone, 0x0B, 0x09, 0⟩] := by decide

/-- R132: the warm reset keeps the live list and sends listed keys to CAL. -/
theorem test_warm_reset :
    let t := after .warmReset (after .reset (panelAt .active))
    (t.live.scan.count, t.keys[9].state, t.keys[9].baseline, t.scan.mode) = (6, .cal, 600, .stopped) := by decide

/-- R133: the cold reset empties the list. -/
theorem test_cold_reset :
    let t := after .coldReset (after .reset (withArg (panelAt .active) 1))
    (t.live.scan.count, t.keys[9].state, t.keys[9].baseline) = (0, .off, 0) := by decide

/-- R185: RESETn low, released with ADDR high, and the start-up time over. -/
theorem test_resetn :
    let t := after .startUpTimeEnd (after (.resetnRelease true) (after .resetnAssert (panelAt .active)))
    (t.power, t.port.busAddress, t.live.scan.count) = (.answering, 0x2D, 0) := by decide

/-- R182: a 1 in bit 1 clears CMD_REJECTED. -/
theorem test_sticky_clears_rejected :
    (after (.stickyFlagsWrite 0x02) (after .stop (busyWith (panelAt .active) .commit))).command.rejected = false := by
  decide

/-- R104: bit 7 of the event filter is not stored. -/
theorem test_filter_reads_seven_bits : (after (.eventFilterWrite 0xFF) State.reset).liveByte 0x0A = 0x7F := by decide

/-- R115: 3 is no ATTN mode. -/
theorem test_attn_mode_ignored :
    let t := after (.attnModeWrite 3) State.reset
    (t.queue.attnMode, t.port.writeIgnored) = (.level, true) := by decide

/-- R181: the page selector stores any value. -/
theorem test_page_selector : (after (.pageSelectorWrite 0xFF) State.reset).liveByte 0x1F = 0xFF := by decide

/-- R170: the source KEY(5) on IND2 of page 6. -/
theorem test_indicator_source :
    (after (.indicatorWrite 2 .source 0x45) (pointing State.reset 6 0)).lines[2].source = .key 5 := by decide

/-- R174: an interval of 16 is out of range. -/
theorem test_fade_interval_ignored :
    let t := after (.fadeIntervalWrite 2 16) (pointing State.reset 6 0)
    (t.lines[2].fade, t.port.writeIgnored) = (0, true) := by decide

/-- R179: a byte written at 0x20 of page 0 is stored, and the pointer moves on. -/
theorem test_register_write :
    let t := after (.registerWrite 16) (pointing State.reset 0 0x20)
    (t.store.staging.globals.calSamples, t.store.live.globals.calSamples, t.port.pointer) = (16, 8, 0x21) := by decide

/-- R179: the first data byte sets the pointer, and the byte after it is written there. -/
theorem test_register_pointer :
    let t := after (.registerWrite 7) (after (.registerPointer 0x04) State.reset)
    (t.command.arg0, t.port.pointer) = (7, 0x05) := by decide

/-- R185: a write transaction that RESETn abandons takes no further byte, not even once the part answers again. -/
theorem test_abandoned_transaction_takes_nothing :
    let held := after .resetnAssert (after (.registerPointer 0x04) State.reset)
    let t := after (.registerWrite 7) (after .startUpTimeEnd (after (.resetnRelease false) held))
    (t.command.arg0, t.port.pointer) = (0, 0) := by decide

/-- R179, R185: START after an acknowledged pointer byte 0x06 is a byte of that transaction, and is taken in the start-up
time without a draw. -/
theorem test_answered_transaction_goes_on :
    let t := after .start ((pointing (panelAt .stopped) 0 0x06).withPower .startUp)
    (t.scan.mode, t.freeDraws, t.port.pointer) = (.active, 0, 0x07) := by decide

/-- R185: START after a pointer byte 0x06 that was left unanswered is not taken, and the host counts on past it. -/
theorem test_left_transaction_takes_nothing :
    let s := after (.registerPointer 0x06) ((panelAt .stopped).withPower .heldInReset)
    let t := after .start (s.withPower .answering)
    (t.scan.mode, t.port.pointer, t.port.transaction) = (.stopped, 0x00, some (.left 0x07)) := by decide

/-- R180, R185: after a read that was left unanswered, and after one that RESETn abandoned, the next read begins a
transaction at the pointer, and is answered once the part answers. -/
theorem test_next_read_is_answered :
    let left := after .latchedFieldRead (State.reset.withPower .heldInReset)
    let abandoned := after .startUpTimeEnd (after (.resetnRelease false) (after .resetnAssert (after .hold State.reset)))
    ((after .latchedFieldRead (left.withPower .answering)).port.sent, (after .latchedFieldRead abandoned).port.sent) =
      (some 0xD2, some 0xD2) := by decide

/-- R180, R185: a later byte of an acknowledged read is sent in the start-up time without a draw, and RESETn abandons
the read. -/
theorem test_read_transaction :
    let t := after .latchedFieldRead ((after .hold (panelAt .stopped)).withPower .startUp)
    (t.freeDraws, t.port.pointer, (after .resetnAssert t).port.transaction) = (0, 0x12, none) := by decide

/-- R180: a read ends the write transaction that set its pointer. -/
theorem test_read_ends_write :
    let t := after (.registerWrite 7) (after .latchedFieldRead (after (.registerPointer 0x03) State.reset))
    (t.command.arg0, t.port.pointer) = (0, 0x04) := by decide

/-- R110: an empty queue reads NONE. -/
theorem test_hold_empty : (after .hold State.reset).port.sent = some 0x00 := by decide

/-- Chapter 6, overflow and coalescing: the pop that leaves fifteen appends OVERFLOW with the lost count. -/
theorem test_pop_overflow :
    let s := (panelAt .active).withQueue
      { EventQueue.powerOn with records := List.replicate 16 ⟨.rebase, 6, 0, 0⟩, lost := 2 }
    let q := (after .pop (after .hold s)).queue
    (q.records.length, q.records.getLast?, q.lost) = (16, some ⟨.overflow, 0, 2, 0⟩, 0) := by decide

/-- Chapter 12, a baseline read across a rebase: 540 is read although the baseline has become 600. -/
theorem test_latched_baseline :
    let s := withKey (pointing (panelAt .active) 4 0x55) 3 { KeyRecord.powerOn with baseline := 540 }
    let t := after .latchedFieldRead s
    let u := after .latchedFieldRead (withKey t 3 { KeyRecord.powerOn with baseline := 600 })
    (t.port.sent, u.port.sent) = (some 0x1C, some 0x02) := by decide

/-- R23, R24: an expiry with a round in flight. -/
theorem test_timer_overrun :
    let t := after .roundTimerExpiry running
    (t.scan.due, t.scan.overrun, t.scan.timer) = (true, true, none) := by decide

/-- R1: the ceiling stops a conversion. -/
theorem test_conversion_stops_at_ceiling :
    (after (.conversion 4095) running).engine.current.map (fun m => m.counts) = some [1023] := by decide

/-- Chapter 1, a noisy channel: H4 to H1 in the set of H1, H2 and H4. -/
theorem test_conversion_retry :
    let e := running.engine
    let m : Option Measurement :=
      e.current.map fun m => { m with hopSet := 0b10110, counts := [533, 533, 533, 533, 604, 533, 533] }
    let t := after (.conversion 533) (running.withEngine { hop := put e.hop 4 4, current := m })
    (t.engine.hop[4], t.engine.current.map (fun m => (m.retries, m.counts))) = (1, some (1, [])) := by decide

/-- Chapter 11: the step from 8 to 9 toward 48, the next expiry 16 ms on. -/
theorem test_fade_step :
    let l : IndicatorLine :=
      { IndicatorLine.powerOn with
        source := .key 4, onLevel := 48, offLevel := 8, fade := 2, level := 8, timer := some 16 }
    let s := withKey (panelAt .active) 4 { KeyRecord.powerOn with state := .pressed }
    let t := after (.fadeTimerExpiry 2) (s.withLines (put s.lines 2 l))
    (t.lines[2].level, t.lines[2].timer) = (9, some 16) := by decide

/-- R117: the pulse ends. -/
theorem test_pulse_ends :
    (after .pulseTimerExpiry (State.reset.withQueue { EventQueue.powerOn with attnMode := .pulse, pulse := true })).queue.pulse
      = false := by decide

/-- R175: the frame takes the level as its duty. -/
theorem test_frame_takes_level :
    let s := State.reset.withLines (put State.reset.lines 7 { IndicatorLine.powerOn with level := 63, invert := true })
    let l := (after .pwmFrame s).lines[7]
    (l.frameDuty, l.drivenHigh 62) = (63, true) := by decide

/-! ## Worked examples of the shared computations -/

/-- Chapter 5, the slider of four members, rounds 1 to 6. -/
theorem test_slider_positions :
    [[45, 12, 0, 0], [38, 41, 5, 0], [22, 50, 14, 1], [15, 47, 20, 2], [2, 46, 10, 1], [1, 46, 9, 0]].map sliderPosition
      = [17, 51, 79, 94, 99, 97] := by decide

/-- Chapter 5, the six-member wheel across the wrap, and the tie of members 1 and 2. -/
theorem test_wheel_positions :
    [[30, 0, 0, 0, 6, 52], [55, 10, 0, 0, 0, 28], [60, 40, 0, 0, 0, 4], [0, 30, 30, 0, 0, 0]].map wheelPosition
      = [224, 247, 14, 64] := by decide

/-- Chapter 5, the exclusive group of 8, 9 and 10 in round 1: 8 wins over 10. -/
theorem test_exclusive_round_one :
    let base := State.reset.keys
    let keys := put (put base 10 { KeyRecord.powerOn with state := .pressed, lastDelta := 55 })
      8 { KeyRecord.powerOn with state := .pressed, lastDelta := 62 }
    let t := arbitrate [8, 9, 10] base keys
    (t[8].state, t[9].state, t[10].state) = (.pressed, .off, .suppressed) := by decide

/-- Chapter 6, a held GROUP_MOVE: the first new one is appended, the second coalesces into it. -/
theorem test_held_move_is_not_coalesced_into :
    let q : EventQueue := { EventQueue.powerOn with records := [⟨.groupMove, 1, 40, 0⟩, ⟨.keyUp, 3, 0, 0⟩], hold := .held }
    (q.offerAll [⟨.groupMove, 1, 55, 0⟩, ⟨.groupMove, 1, 61, 0⟩]).records =
      [⟨.groupMove, 1, 40, 0⟩, ⟨.keyUp, 3, 0, 0⟩, ⟨.groupMove, 1, 61, 0⟩] := by decide

/-- Chapter 4, rebase after max-on, round 4. -/
theorem test_rebase :
    let g := { Globals.default with driftInterval := 4, driftStep := 2, negRounds := 3 }
    let k := { KeyRecord.powerOn with state := .idle, baseline := 540, negative := 2, drift := 2 }
    let o := channelStep g (ChannelConfig.default 3) false ⟨3, .valid, 600⟩ k
    (o.1.baseline, o.1.lastDelta, o.1.negative, o.1.drift, o.2) = (600, 0, 0, 0, [⟨.rebase, 3, 0, 0⟩]) := by decide

/-- Chapter 4, drift, round 2. -/
theorem test_drift :
    let g := { Globals.default with driftInterval := 4, driftStep := 2, negRounds := 3 }
    let k := { KeyRecord.powerOn with state := .idle, baseline := 600, drift := 3 }
    let o := channelStep g (ChannelConfig.default 8) false ⟨8, .valid, 595⟩ k
    (o.1.baseline, o.1.lastDelta, o.1.drift, o.2) = (598, 5, 0, []) := by decide

/-- Chapter 3, a press through debounce: round 11 releases the key. -/
theorem test_release_records :
    let ch := { ChannelConfig.default 6 with prox := 15, downDebounce := 3 }
    let k := { KeyRecord.powerOn with state := .pressed, baseline := 600, release := 1, near := true, onDuration := 4 }
    let o := channelStep Globals.default ch false ⟨6, .valid, 597⟩ k
    (o.1.state, o.1.onDuration, o.1.near, o.2) = (.idle, 0, false, [⟨.keyUp, 6, 0, 0⟩, ⟨.proxOff, 6, 0, 0⟩]) := by decide

/-- Chapter 9, the decisions of R154 and R155 on channels 9 and 4 in passes 1 and 7. -/
theorem test_trim_decisions :
    let run := { trimRunFor panel with lo := 480, hi := 560 }
    let last := { run with pass := 7, trial := put (put run.trial 9 25) 4 63 }
    ((run.decideOn ⟨9, .valid, 612⟩).trial[9], (run.decideOn ⟨4, .valid, 310⟩).trial[4],
      (last.decideOn ⟨9, .valid, 555⟩).found[9], (last.decideOn ⟨4, .valid, 430⟩).found[4]) = (0, 32, .ok, .lowLimit) := by
  decide

/-! ## Witnesses: states and operands that meet each obligation's hypotheses -/

/-- A pressed key, near. -/
def pressedKey : KeyRecord := { KeyRecord.powerOn with state := .pressed, near := true, baseline := 600, lastDelta := 50 }

/-- A key that calibrates. -/
def calKey : KeyRecord := { KeyRecord.powerOn with state := .cal, baseline := 600 }

/-- A part that answers, with no transaction open, takes a byte at any address. -/
theorem closed {s : State} {a : Byte} (hp : s.power = .answering) (ht : s.port.transaction = none) :
    s.AnswersAt a := ⟨hp, by simp [ht]⟩

theorem panelAt_idle (m : Mode) : (panelAt m).Idle := ⟨closed rfl rfl, rfl, rfl⟩

theorem panelAt_list (m : Mode) : (panelAt m).live.scanList = [4, 9, 2, 11, 12, 13] := by
  show panel.scanList = _
  decide

theorem panelAt_offUnlisted (m : Mode) : (panelAt m).OffUnlisted := by
  show ∀ c : Channel, (panelAt m).keys[c].state = .off ↔ panel.listed c = false
  cases m <;> decide

theorem panelAt_nearFits (m : Mode) : (panelAt m).NearFits := by
  unfold State.NearFits KeyRecord.NearFits
  cases m <;> decide

theorem panel_valid : panel.valid = true := by decide

theorem witness_StepRunsFrontCommand :
    (State.reset.withPending [.start, .pop]).pending = .start :: [.pop] ∧ State.reset.pending = [] := by decide

theorem witness_StartBeginsRound :
    (panelAt .stopped).Idle ∧ (panelAt .stopped).scan.mode = .stopped ∧ (panelAt .stopped).store.snapshot = none ∧
      (panelAt .stopped).live.scanList = 4 :: [9, 2, 11, 12, 13] :=
  ⟨panelAt_idle _, rfl, rfl, panelAt_list _⟩

theorem witness_RequestsThatEndAtOnce_modes :
    EndsAtOnce (panelAt .active) .start 0x01 .wrongMode ∧ EndsAtOnce State.reset .start 0x01 .emptyList ∧
      EndsAtOnce (panelAt .stopped) .stop 0x02 .wrongMode ∧ EndsAtOnce (panelAt .doze) .trim 0x05 .wrongMode ∧
      EndsAtOnce State.reset .trim 0x05 .emptyList ∧ EndsAtOnce (panelAt .stopped) .doze 0x06 .wrongMode ∧
      EndsAtOnce (withKey (panelAt .active) 9 calKey) .doze 0x06 .wrongMode ∧
      EndsAtOnce (panelAt .active) .wake 0x07 .wrongMode ∧ EndsAtOnce (panelAt .active) .abort 0x09 .nothingPending := by
  simp only [EndsAtOnce]
  decide

theorem witness_RequestsThatEndAtOnce_arguments :
    EndsAtOnce (withArg (panelAt .active) 24) .recal 0x04 .badArg ∧
      EndsAtOnce (withArg (panelAt .active) 254) .recal 0x04 .badArg ∧
      EndsAtOnce (withArg (panelAt .active) 23) .recal 0x04 .ok ∧
      EndsAtOnce (withArg (panelAt .active) 0) .recal 0x04 .ok ∧
      EndsAtOnce (withArg State.reset 0xFF) .recal 0x04 .ok ∧
      EndsAtOnce (withArg State.reset 2) .reset 0x0A .badArg ∧ EndsAtOnce (withArg State.reset 255) .reset 0x0A .badArg ∧
      EndsAtOnce State.reset (.unknownCmd 0) 0 .unknownCmd ∧
      EndsAtOnce State.reset (.unknownCmd 0x0B) 0x0B .unknownCmd := by
  refine ⟨?_, ?_, ?_, ?_, ?_, ?_, ?_, ?_, ?_⟩ <;> simp only [EndsAtOnce] <;> decide

theorem witness_RequestsThatEndAtOnce_idle :
    State.reset.Idle ∧ (withArg (panelAt .active) 24).Idle ∧ (withKey (panelAt .active) 9 calKey).Idle :=
  ⟨⟨closed rfl rfl, rfl, rfl⟩, ⟨closed rfl rfl, rfl, rfl⟩, ⟨closed rfl rfl, rfl, rfl⟩⟩

theorem witness_RequestsNotTaken_busy :
    (busyWith (panelAt .active) .commit).Takes ∧ (busyWith (panelAt .active) .commit).command.inProgress ≠ none ∧
      RefusedWhileBusy .stop ∧ RefusedWhileBusy (.unknownCmd 0) ∧ RefusedWhileBusy (.unknownCmd 0x0B) :=
  ⟨⟨closed rfl rfl, rfl⟩, by decide, trivial, by simp [RefusedWhileBusy, isCommandCode], by simp [RefusedWhileBusy, isCommandCode]⟩

theorem witness_RequestsNotTaken_pendingReset :
    let s := pointing (after .reset (panelAt .active)) 0 0x06
    s.power = .answering ∧ s.command.pendingReset ≠ none ∧ s.port.transaction = some (.answered .write) ∧
      commandCodeOf .flush s.port.pointer = some 0x08 ∧
      commandCodeOf (.registerWrite 0x0A) s.port.pointer = some 0x0A := by decide

theorem witness_StopReleasesAndStops :
    (withKey (panelAt .active) 4 pressedKey).Idle ∧ (withKey (panelAt .active) 4 pressedKey).scan.mode = .active ∧
      (panelAt .doze).Idle ∧ (panelAt .doze).scan.mode = .doze :=
  ⟨⟨closed rfl rfl, rfl, rfl⟩, rfl, panelAt_idle _, rfl⟩

/-- A staging copy whose entry count is 25: detail 1. -/
def badCount : Configuration := { panel with scan := ⟨25, panel.scan.entries⟩ }

/-- A staging copy whose group 5 has a member that is not listed: detail 248. -/
def badGroup : Configuration := { panel with groups := put panel.groups 5 ⟨1, 2, tab fun i => [2, 23].getD i.val 0, 1⟩ }

theorem witness_CommitChecksStaging_invalid :
    validationFailure badCount = some 1 ∧ validationFailure badGroup = some 248 ∧
      ((panelAt .stopped).withStore ⟨badCount, panel, none⟩).Idle ∧
      ((panelAt .stopped).withStore ⟨badCount, panel, none⟩).scan.mode ≠ .trim :=
  ⟨by decide, by decide, ⟨closed rfl rfl, rfl, rfl⟩, by decide⟩

theorem witness_CommitChecksStaging_pending :
    (panelAt .active).Idle ∧ (panelAt .doze).Idle ∧ (panelAt .active).scan.mode = .active ∧
      (panelAt .doze).scan.mode = .doze ∧ (panelAt .active).store.staging.valid = true :=
  ⟨panelAt_idle _, panelAt_idle _, rfl, rfl, panel_valid⟩

theorem witness_CommitInStoppedInstalls :
    (panelAt .stopped).Idle ∧ (panelAt .stopped).scan.mode = .stopped ∧
      (panelAt .stopped).store.staging.valid = true ∧ (panelAt .stopped).NearFits ∧
      (panelAt .stopped).OffUnlisted ∧ (panelAt .stopped).live.valid = true :=
  ⟨panelAt_idle _, rfl, panel_valid, panelAt_nearFits _, panelAt_offUnlisted _, panel_valid⟩

theorem witness_RecalSendsTargetsToCal :
    (withArg (panelAt .active) 13).Idle ∧ (withArg (panelAt .stopped) 0xFF).Idle ∧
      (withArg (panelAt .stopped) 0xFF).command.arg0 = 0xFF ∧
      (withArg (panelAt .stopped) 0xFF).live.scanList = [4, 9, 2, 11, 12, 13] ∧
      (withArg (panelAt .active) 13).command.arg0 = idByte (13 : Channel) ∧
      (withArg (panelAt .active) 13).live.listed 13 = true :=
  ⟨⟨closed rfl rfl, rfl, rfl⟩, ⟨closed rfl rfl, rfl, rfl⟩, rfl, by decide, rfl, by decide⟩

theorem witness_RecalWakesFromDoze :
    let s := withArg (panelAt .doze) 0xFF
    let one := withArg (panelAt .doze) 23
    s.Idle ∧ s.scan.mode = .doze ∧ s.store.snapshot = none ∧ s.command.arg0 = 0xFF ∧
      s.live.scanList = 4 :: [9, 2, 11, 12, 13] ∧ one.Idle ∧ (withArg (panelAt .doze) 13).command.arg0 = idByte (13 : Channel) ∧
      (withArg (panelAt .doze) 13).live.listed 13 = true :=
  ⟨⟨closed rfl rfl, rfl, rfl⟩, rfl, rfl, rfl, panelAt_list .doze, ⟨closed rfl rfl, rfl, rfl⟩, rfl, by decide⟩

theorem witness_TrimBeginsSearch :
    (panelAt .stopped).Idle ∧ (panelAt .stopped).scan.mode = .stopped ∧
      (panelAt .stopped).live.scanList = 4 :: [9, 2, 11, 12, 13] :=
  ⟨panelAt_idle _, rfl, panelAt_list _⟩

theorem witness_DozeReleasesNonWakeKeys :
    let s := withKey (panelAt .active) 4 pressedKey
    s.Idle ∧ s.scan.mode = .active ∧
      ∀ c : Channel, s.live.listed c = true → s.live.channels[c].wake = false → s.keys[c].state ≠ .cal :=
  ⟨⟨closed rfl rfl, rfl, rfl⟩, rfl, by decide⟩

theorem witness_WakeReturnsToActive :
    let empty := State.reset.withScan { ScanController.powerOn with mode := .doze, timer := some 100 }
    (panelAt .doze).Idle ∧ (panelAt .doze).scan.mode = .doze ∧ (panelAt .doze).store.snapshot = none ∧
      (panelAt .doze).scan.round = none ∧ (panelAt .doze).live.scanList = 4 :: [9, 2, 11, 12, 13] ∧
      empty.Idle ∧ empty.scan.mode = .doze ∧ empty.store.snapshot = none ∧ empty.scan.round = none ∧
      empty.live.scanList = [] ∧ (after .roundTimerExpiry (panelAt .doze)).scan.round ≠ none :=
  ⟨panelAt_idle _, rfl, rfl, rfl, panelAt_list _, ⟨closed rfl rfl, rfl, rfl⟩, rfl, rfl, rfl, by decide, by decide⟩

theorem witness_FlushEmptiesQueue : (panelAt .active).Takes ∧ (busyWith (panelAt .active) .commit).Takes :=
  ⟨⟨closed rfl rfl, rfl⟩, ⟨closed rfl rfl, rfl⟩⟩

theorem witness_AbortEndsCommand :
    (busyWith (panelAt .active) .commit).Takes ∧
      (busyWith (panelAt .active) .commit).command.inProgress = some ⟨.commit, 0, 0⟩ ∧
      (busyWith (panelAt .active) (.recal [4] 0)).command.inProgress = some ⟨.recal [4] 0, 0, 0⟩ ∧
      (after .trim (panelAt .stopped)).command.inProgress = some ⟨.trim, 0, 0⟩ :=
  ⟨⟨closed rfl rfl, rfl⟩, rfl, rfl, by decide⟩

theorem witness_ResetBecomesPending :
    (withArg State.reset 1).Takes ∧ (withArg State.reset 0).command.arg0 = 0 ∧
      (withArg State.reset 1).command.arg0 = 1 ∧ 2 ≤ (withArg State.reset 2).command.arg0.toNat ∧
      2 ≤ (withArg State.reset 255).command.arg0.toNat :=
  ⟨⟨closed rfl rfl, rfl⟩, rfl, rfl, by decide, by decide⟩

theorem witness_ResetCommandsTakeEffect :
    (panelAt .active).Runs ∧ (panelAt .active).command.pendingReset ≠ some .warm ∧
      (after .reset (panelAt .active)).command.pendingReset = some .warm ∧
      (after .reset (withArg (panelAt .active) 1)).command.pendingReset = some .cold :=
  ⟨by unfold State.Runs; decide, by decide, by decide, by decide⟩

theorem witness_ResetPinIsPowerOn :
    (after (.resetnRelease false) State.reset).power = .startUp ∧ (after .resetnAssert State.reset).power = .heldInReset ∧
      State.reset.power = .answering ∧ busRole .pwmFrame State.reset.port = .offBus ∧
      Instr.pwmFrame ≠ .resetnAssert ∧ ∀ b, Instr.pwmFrame ≠ .resetnRelease b := by decide

theorem witness_ResetPinIsPowerOn_begins :
    busRole .start State.reset.port = .begins .write 0x07 ∧ busRole (.registerPointer 0xFF) State.reset.port = .begins .write 0xFF ∧
      busRole .pop State.reset.port = .begins .read 0x14 ∧ busRole .latchedFieldRead State.reset.port = .begins .read 0x01 ∧
      busRole .start (pointing State.reset 0 0x05).port = .begins .write 0x07 := by decide

theorem witness_ResetPinIsPowerOn_further :
    let read := (after .hold State.reset).port
    let left := (after .resetnAssert (pointing State.reset 0 0x06)).port
    busRole .start (pointing State.reset 0 0x06).port = .further .write ∧ busRole .latchedFieldRead read = .further .read ∧
      read.transaction = some (.answered .read) ∧ busRole .start left = .further .write ∧
      busRole (.registerWrite 0) left = .further .write ∧ left.transaction = some (.left 0x06) := by decide

theorem witness_PlainRegisterWrites :
    State.reset.AnswersAt 0x03 ∧ State.reset.AnswersAt 0x0A ∧ State.reset.AnswersAt 0x0B ∧
      State.reset.AnswersAt 0x1F ∧ 3 ≤ (3 : Byte).toNat ∧ (0 : Byte) = AttnMode.off.code ∧
      (1 : Byte) = AttnMode.level.code ∧ (2 : Byte) = AttnMode.pulse.code ∧ AttnMode.pulse ≠ State.reset.queue.attnMode :=
  ⟨closed rfl rfl, closed rfl rfl, closed rfl rfl, closed rfl rfl, by decide, by decide, by decide, by decide, by decide⟩

/-- A part on page 6, with no transaction open. -/
def onLinePage : State := State.reset.withPort { State.reset.port with page := 6 }

theorem witness_IndicatorWrites_FadeIntervalWrites :
    onLinePage.AnswersAt 0x20 ∧ onLinePage.AnswersAt 0x5E ∧ onLinePage.AnswersAt 0x5C ∧
      onLinePage.port.page = 6 ∧ 16 ≤ (16 : Byte).toNat ∧ (15 : Byte).toNat ≤ 15 :=
  ⟨closed rfl rfl, closed rfl rfl, closed rfl rfl, rfl, by decide, by decide⟩

/-- R171: a KEY line at its rows: dark in DOZE, the on level while the key is PRESSED, the off level else. -/
theorem witness_IndicatorWrites_targets :
    let l : IndicatorLine := { IndicatorLine.powerOn with source := .key 4, onLevel := 63, offLevel := 5, dozeDark := true }
    [panelAt .doze, panelAt .active, withKey (panelAt .active) 4 pressedKey].map (State.targetLevel · l) = [0, 5, 63] := by
  decide

theorem witness_StagingWritesReadBack :
    let first := pointing State.reset 0 0x20
    let last := pointing State.reset 3 0x7A
    first.Writes ∧ last.Writes ∧ first.port.page.toNat ≤ 3 ∧ 0x20 ≤ first.port.pointer.toNat ∧
      ignoresEveryWrite first.port.page first.port.pointer = false ∧
      ignoresEveryWrite last.port.page last.port.pointer = false :=
  ⟨⟨by decide, rfl⟩, ⟨by decide, rfl⟩, by decide, by decide, by decide, by decide⟩

theorem witness_ArgumentsStoredAndOthersIgnored :
    (pointing State.reset 0 0x04).Writes ∧ State.reset.port.place .write = none ∧ (pointing State.reset 0 0x04).port.pointer = 0x04 ∧
      (pointing State.reset 0 0x05).port.pointer = 0x05 ∧ ignoresEveryWrite 0 0x07 = true ∧
      ignoresEveryWrite 0 0x33 = true ∧ ignoresEveryWrite 3 0x2B = true ∧ ignoresEveryWrite 7 0xFF = true ∧
      ignoresEveryWrite 6 0x26 = true :=
  ⟨⟨by decide, rfl⟩, rfl, rfl, rfl, by decide, by decide, by decide, by decide, by decide⟩

theorem witness_RowsActAtTheirAddress :
    let s := pointing State.reset 6 0x5E
    writtenAt (.indicatorWrite 7 .currentLevel 1) = some (0x5E, 1) ∧ writtenAt .start = some (0x06, 0x01) ∧
      s.port.transaction = some (.answered .write) ∧ s.port.pointer = 0x5E ∧
      (pointing State.reset 0 0x10).port.pointer = 0x10 ∧ (pointing State.reset 0 0x13).port.pointer = 0x13 := by decide

theorem witness_IdentityBytesFixed :
    State.reset.AnswersReads ∧ State.reset.port.pointer = 0x00 ∧ (pointing State.reset 0 0x01).port.pointer = 0x01 ∧
      (pointing State.reset 0 0x01).Writes :=
  ⟨rfl, rfl, rfl, ⟨by decide, rfl⟩⟩

theorem witness_QueuePortHoldsAndPops :
    let s := queued (panelAt .active) [⟨.keyUp, 3, 0, 7⟩]
    s.AnswersReads ∧ (after .hold s).AnswersReads ∧
      (after .hold s).queue.hold = .held :=
  ⟨rfl, rfl, by decide⟩

theorem witness_LatchedFieldsNeverTorn_lowest :
    let s := pointing State.reset 9 0xD0
    let t := after .latchedFieldRead s
    let other := { t with port := { t.port with page := 0, latch := some ⟨none, 0x0C, [0, 0]⟩, pointer := 0x0D } }
    s.AnswersReads ∧ (0xD0, 3) ∈ latchedFields s.port.page.toNat ∧ s.port.pointer.toNat = 0xD0 ∧
      t.AnswersReads ∧ t.port.pointer.toNat = 0xD0 + 1 ∧ t.port.page = s.port.page ∧ other.AnswersReads ∧
      other.port.pointer.toNat = 0x0C + 1 ∧ other.port.page ≠ s.port.page ∧
      (after .latchedFieldRead (pointing State.reset 9 0x0C)).port.latch = other.port.latch :=
  ⟨rfl, by decide, by decide, rfl, by decide, by decide, rfl, by decide, by decide, by decide⟩

theorem witness_LatchedFieldsNeverTorn_others :
    let s := pointing State.reset 5 0x2A
    (0x29, 2) ∈ latchedFields s.port.page.toNat ∧ s.port.pointer.toNat = 0x29 + 1 ∧ ¬ s.port.latchHolds s.port.page 0x29 ∧
      (∀ f ∈ latchedFields 5, ¬ (f.1 ≤ 0x0F ∧ 0x0F < f.1 + f.2)) ∧
      (∀ f ∈ latchedFields 5, ¬ (f.1 ≤ 0x14 ∧ 0x14 < f.1 + f.2)) ∧
      (∀ f ∈ latchedFields 5, ¬ (f.1 ≤ 0xE5 ∧ 0xE5 < f.1 + f.2)) ∧ (pointing State.reset 0 0x12).port.pointer.toNat = 0x12 :=
  by
  refine ⟨by decide, by decide, ?_, by decide, by decide, by decide, by decide⟩
  rintro ⟨_, h, _⟩
  cases h

theorem witness_WindowShowsState : State.reset.AnswersReads ∧ (panelAt .active).AnswersReads :=
  ⟨rfl, rfl⟩

theorem witness_TimerStartsRound :
    (panelAt .active).Runs ∧ (panelAt .stopped).scan.timer = none ∧ (panelAt .active).scan.timer ≠ none ∧
      running.scan.timer ≠ none ∧ running.scan.round ≠ none ∧ (panelAt .active).scan.round = none ∧
      (panelAt .active).store.snapshot = none ∧
      ((panelAt .doze).live.scanList.filter fun d => (panelAt .doze).live.channels[d].wake) = 13 :: [] :=
  ⟨by unfold State.Runs; decide, by decide, by decide, by decide, by decide, by decide, rfl, by decide⟩

theorem witness_TimerStartsRound_empty :
    let s := State.reset.withScan { ScanController.powerOn with mode := .active, timer := some 20 }
    let d := State.reset.withScan { ScanController.powerOn with mode := .doze, timer := some 100 }
    s.Runs ∧ s.scan.timer ≠ none ∧ s.scan.round = none ∧ s.store.snapshot = none ∧ s.scan.mode ≠ .doze ∧
      s.live.scanList = [] ∧ d.scan.mode = .doze ∧ ∀ c ∈ d.live.scanList, d.live.channels[c].wake = false :=
  ⟨by unfold State.Runs; decide, by decide, rfl, rfl, by decide, by decide, rfl, by decide⟩

/-- A measurement of channel 13 that has one conversion left. -/
def lastConversion (retries : Nat) : Measurement :=
  { (panel.measurementOf .scan 13 16) with counts := [600, 600, 600, 600, 600, 600, 600], retries := retries }

/-- The panel with a round in flight that has one result to come, that of channel 13. -/
def lastOf (mode : Mode) (r : Round) (retries : Nat) : State :=
  ((panelAt mode).withScan { (panelAt mode).scan with round := some r }).withEngine
    { Engine.powerOn with current := some (lastConversion retries) }

/-- The ACTIVE round with the results of all channels but 13. -/
def fullRound : Round := ⟨.active, [4, 9, 2, 11, 12, 13], [4, 9, 2, 11, 12].map fun c => ⟨c, .valid, 600⟩⟩

theorem lastOf_last (mode : Mode) (r : Round) (cycles : Nat) (h : r.measured.length = r.results.length + 1) :
    (lastOf mode r 0).LastResult (lastConversion 0) r cycles :=
  ⟨rfl, rfl, ⟨by decide, Or.inr rfl⟩, rfl, h⟩

/-- The DOZE round whose one result is to come. -/
def dozeRound : Round := ⟨.doze, [13], []⟩

theorem witness_ActiveRoundCompletes :
    let s := lastOf .active fullRound 0
    s.Runs ∧ s.LastResult (lastConversion 0) fullRound 600 ∧ fullRound.kind = .active ∧ s.scan.mode = .active ∧
      s.live.scanList = 4 :: [9, 2, 11, 12, 13] ∧ s.store.snapshot = none ∧ s.scan.due = false ∧
      dozesAt { s.live with globals := { s.live.globals with dozeAfter := 255 } } 2040 :=
  ⟨by unfold State.Runs; decide, lastOf_last _ _ _ (by decide), rfl, rfl, panelAt_list .active, rfl, rfl, by decide⟩

theorem witness_DozeRoundLooksForWakeKey :
    let s := lastOf .doze dozeRound 0
    s.Runs ∧ s.LastResult (lastConversion 0) dozeRound 600 ∧ dozeRound.kind = .doze ∧ s.scan.mode = .doze ∧
      s.scan.due = false ∧ s.store.snapshot = none ∧ s.live.scanList = 4 :: [9, 2, 11, 12, 13] ∧
      (s.live.scanList.filter fun d => s.live.channels[d].wake) = 13 :: [] ∧
      s.live.wakingKey s.keys = none ∧ s.live.wakingKey (withKey s 13 pressedKey).keys = some 13 ∧
      (lastOf .active dozeRound 0).LastResult (lastConversion 0) dozeRound 600 :=
  ⟨by unfold State.Runs; decide, lastOf_last _ _ _ (by decide), rfl, rfl, rfl, rfl, panelAt_list .doze, by decide,
    by decide, by decide, lastOf_last _ _ _ (by decide)⟩

/-- The round of `lastOf` with the panel's own configuration pending, and the next round due. -/
def lastWithCommit (mode : Mode) (r : Round) : State :=
  let s := lastOf mode r 0
  (s.withStore ⟨panel, panel, some panel⟩).withScan { s.scan with due := true }

theorem lastWithCommit_fits (mode : Mode) (r : Round) :
    (lastWithCommit mode r).store.Valid ∧ (lastWithCommit mode r).NearFits ∧ (lastWithCommit mode r).OffUnlisted :=
  ⟨⟨panel_valid, fun _ h => Option.some.inj h ▸ panel_valid⟩, panelAt_nearFits mode, panelAt_offUnlisted mode⟩

theorem witness_RoundStartInstallsCommit_timer :
    let s := (panelAt .doze).withStore ⟨panel, panel, some panel⟩
    s.Runs ∧ s.scan.timer ≠ none ∧ s.scan.round = none ∧ s.scan.mode = .doze ∧ s.store.snapshot = some panel ∧
      s.store.Valid ∧ s.NearFits ∧ s.OffUnlisted ∧ panel.scanList = 4 :: [9, 2, 11, 12, 13] ∧
      Configuration.default.scanList = [] ∧ Configuration.default.valid = true :=
  ⟨by unfold State.Runs; decide, by decide, rfl, rfl, rfl, (lastWithCommit_fits .doze dozeRound).1, panelAt_nearFits .doze,
    panelAt_offUnlisted .doze, by decide, by decide, by decide⟩

theorem witness_RoundStartInstallsCommit_completion (mode : Mode) (r : Round) (cycles : Nat)
    (h : r.measured.length = r.results.length + 1) :
    (lastWithCommit mode r).LastResult (lastConversion 0) r cycles ∧ (lastWithCommit mode r).scan.due = true ∧
      (lastWithCommit mode r).scan.mode = mode ∧ (lastWithCommit mode r).store.snapshot = some panel ∧
      ¬ dozesAt panel 2040 :=
  ⟨⟨rfl, rfl, ⟨by decide, Or.inr rfl⟩, rfl, h⟩, rfl, rfl, rfl, by decide⟩

theorem witness_RoundStartInstallsCommit_rounds :
    fullRound.kind = .active ∧ fullRound.measured.length = fullRound.results.length + 1 ∧ dozeRound.kind = .doze ∧
      dozeRound.measured.length = dozeRound.results.length + 1 := by decide

theorem witness_EvaluationStepsKeysThenGroups :
    (panelAt .active).live.valid = true ∧ (panelAt .active).live.groups[0].groupKind = .exclusive ∧
      (4 : Channel) ∈ (panelAt .active).live.groups[0].memberList ∧
      ∀ g : GroupId, (panelAt .active).live.groups[g].groupKind = .exclusive →
        (11 : Channel) ∉ (panelAt .active).live.groups[g].memberList :=
  ⟨panel_valid, by decide, by decide, by decide⟩

theorem witness_RecalWaitsForKeys :
    let s := busyWith (withKey (panelAt .active) 9 calKey) (.recal [9] 0)
    s.command.inProgress = some ⟨.recal [9] 0, 0, 0⟩ ∧ ∀ c ∈ [(9 : Channel)], s.keys[c].state = .cal := by decide

theorem witness_ConversionsAndRetries :
    running.Runs ∧ (panelAt .active).engine.current = none ∧ panel.channels[4].burst = 1 ∧
      running.engine.current = some (panel.measurementOf .scan 4 16) ∧
      ((lastConversion 1).counts ++ [min 660 (lastConversion 1).ceiling]).length = (lastConversion 1).burstLength ∧
      burstVerdict (lastConversion 1) ((lastConversion 1).counts ++ [min 660 (lastConversion 1).ceiling]) = .noisy ∧
      (lastConversion 1).retries ≠ 0 ∧ (lastConversion 0).retries = 0 ∧
      ({ fullRound with results := [] } : Round).measured[0 + 1]? = some 9 ∧
      ({ lastConversion 0 with requester := .trim } : Measurement).EndsWith 600 :=
  ⟨by unfold State.Runs; decide, rfl, by decide, by decide, by decide, by decide, by decide, rfl, by decide, by decide,
    Or.inr rfl⟩

theorem witness_BurstOutcome :
    [600, 600, 649].map (fun n => burstVerdict (lastConversion 0) [600, n]) = [.valid, .valid, .noisy] ∧
      burstVerdict (lastConversion 0) [1023, 600] = .openCircuit ∧ burstVerdict (lastConversion 0) [15, 16] = .shorted ∧
      burstVerdict (lastConversion 0) [16, 16] = .valid ∧ ∀ n ∈ [1023, 600], n ≤ (lastConversion 0).ceiling := by decide

theorem witness_NextFrequency :
    (0b10110 : BitVec 5) ≠ 0 ∧ ((2 : Hop) < 4 ∧ inHopSet 0b10110 4 = true) ∧
      ∀ k : Hop, (4 : Hop) < k → inHopSet 0b10110 k = false := by decide

theorem witness_TrimSearchesAndCompletes :
    let s := after .trim (panelAt .stopped)
    let run := trimRunFor panel
    let last := { run with pass := 7, place := 5 }
    s.trimRun = some run ∧ 1 ≤ run.pass ∧ run.pass ≤ 6 ∧ run.channels[run.place + 1]? = some 9 ∧ last.pass = 7 ∧
      last.place + 1 = last.channels.length ∧ last.channels = s.live.scanList ∧
      ∀ c : Channel, s.keys[c].near = false := by decide

theorem witness_TimedOutputs :
    let l : IndicatorLine := { IndicatorLine.powerOn with source := .host, offLevel := 1, fade := 15, timer := some 120 }
    let s := State.reset.withLines (put State.reset.lines 7 l)
    s.Runs ∧ s.lines[0].timer = none ∧ s.lines[7].timer ≠ none :=
  ⟨by unfold State.Runs; decide, by decide, by decide⟩

theorem witness_ValidStepsByState :
    let at' (st : KeyState) (mean : Nat) : KeyState :=
      (channelStep Globals.default (ChannelConfig.default 6) false ⟨6, .valid, mean⟩
        { calKey with state := st, debounce := 1, release := 1 }).1.state
    [at' .idle 560, at' .idle 561, at' .prox 560, at' .detect 560, at' .pressed 580, at' .pressed 581,
      at' .suppressed 580, at' .suppressed 581] =
      [.detect, .idle, .detect, .pressed, .pressed, .idle, .suppressed, .idle] := by decide

theorem witness_ResultsThatAreNotValid :
    let r : MeasResult := ⟨6, .noisy, 600⟩
    let o : MeasResult := ⟨6, .openCircuit, 1023⟩
    r.verdict = .noisy ∧ o.verdict = .openCircuit ∧ pressedKey.state ≠ .off ∧ pressedKey.state ≠ .fault ∧
      (channelStep Globals.default (ChannelConfig.default 6) false o { pressedKey with faultCount := 3 }).2 =
        [⟨.keyUp, 6, 2, 0⟩, ⟨.proxOff, 6, 0, 0⟩, ⟨.fault, 6, 1, 0⟩] := by decide

theorem witness_CalibrationAttempts :
    let g := { Globals.default with calSamples := 4 }
    let acc (largest attempt : Nat) : Accumulator := ⟨1800, 3, 590, largest, attempt⟩
    let step (k : KeyRecord) := channelStep g (ChannelConfig.default 6) false ⟨6, .valid, 600⟩ k
    calKey.state = .cal ∧ calKey.near = false ∧ (step calKey).1.acc.samples < g.calSamples.toNat ∧
      (step { calKey with acc := acc 654 1 }).1.state = .idle ∧ (step { calKey with acc := acc 655 2 }).1.acc.attempt = 3 ∧
      (step { calKey with acc := acc 655 3 }).1.state = .fault := by decide

theorem witness_DriftAndRebase :
    let k := { KeyRecord.powerOn with state := .idle, baseline := 600, negative := 9 }
    let ch := ChannelConfig.default 6
    k.state = .idle ∧ ((600 : Nat) : Int) - (561 : Nat) < (ch.touch.toNat : Int) ∧ ch.prox.toNat = 0 ∧
      (channelStep Globals.default ch false ⟨6, .valid, 620⟩ k).1.baseline = 620 ∧
      (channelStep Globals.default ch false ⟨6, .valid, 619⟩ k).1.negative = 0 := by decide

theorem witness_ExclusiveArbitration :
    let prior := put State.reset.keys 8 pressedKey
    let keys := put (put prior 9 pressedKey) 10 { pressedKey with state := .suppressed }
    [(8 : Channel), 9, 10].Nodup ∧ (prior[8].state = .pressed ∧ keys[8].state = .pressed) ∧
      (prior[9].state ≠ .pressed ∧ keys[9].state = .pressed) ∧ keys[10].state = .suppressed := by decide

theorem witness_GroupPositions :
    2 ≤ [0, 7].length ∧ 0 < [0, 7].sum ∧ sliderPosition [0, 7] = 255 ∧ sliderPosition [7, 0] = 0 ∧
      3 ≤ [4, 9, 9].length ∧ (∀ j, j < 3 → [4, 9, 9].getD j 0 ≤ [4, 9, 9].getD 1 0) ∧
      (∀ j, j < 1 → [4, 9, 9].getD j 0 < [4, 9, 9].getD 1 0) := by decide

theorem witness_GroupTouchMoveRelease :
    let keys := (withKey (panelAt .active) 11 pressedKey).keys
    panel.groups[1].hasPosition = true ∧ (∃ c ∈ panel.groups[1].memberList, keys[c].state = .pressed) ∧
      groupStage panel keys 1 GroupRun.cleared = (⟨true, some 0, some 0⟩, [⟨.groupTouch, 1, 0, 0⟩]) ∧
      groupStage panel keys 1 ⟨true, some 5, some 10⟩ = (⟨true, some 0, some 0⟩, [⟨.groupMove, 1, 0, 0⟩]) ∧
      groupStage panel keys 1 ⟨true, some 5, some 9⟩ = (⟨true, some 0, some 9⟩, []) := by decide

theorem witness_OfferedRecords :
    let q : EventQueue := { EventQueue.powerOn with records := List.replicate 16 ⟨.groupMove, 1, 40, 0⟩, hold := .held }
    q.filter.getLsbD 2 = true ∧ (0 : BitVec 7).getLsbD 0 = false ∧
      (∃ e ∈ q.unheld, e.kind = .groupMove ∧ e.index = 1) ∧ ¬ (∃ e ∈ q.unheld, e.kind = .groupMove ∧ e.index = 2) ∧
      16 ≤ q.records.length ∧ EventQueue.powerOn.records.length < 16 := by decide

/-! ## Witnesses of the invariants: the first round in flight, a conversion about to end -/

/-- The first round in flight, and a conversion in front of the queue. -/
def converting : State := running.withPending [.conversion 600]

theorem converting_round : converting.scan.round = some ⟨.active, [4, 9, 2, 11, 12, 13], []⟩ := by decide

theorem converting_current : converting.engine.current = some (panel.measurementOf .scan 4 16) := by decide

theorem converting_steps : step converting = .next (after (.conversion 600) running) := by rfl

theorem witness_QueueStaysSound : converting.queue.Sound := by
  unfold EventQueue.Sound
  decide

theorem witness_KeysFitList : converting.OffUnlisted ∧ converting.NearFits := by
  refine ⟨?_, ?_⟩
  · show ∀ c : Channel, converting.keys[c].state = .off ↔ panel.listed c = false
    decide
  · unfold State.NearFits KeyRecord.NearFits
    decide

theorem witness_LiveCopyStaysValid : converting.store.Valid :=
  ⟨panel_valid, fun _ h => by rw [show converting.store.snapshot = none from rfl] at h; cases h⟩

theorem witness_ControlStaysCoherent : converting.Controlled := by
  show converting.ScanFits
  refine ⟨by decide, ?_, ?_, ?_, fun h => absurd h (by decide)⟩
  · unfold State.RoundFits
    rw [converting_round]
    exact ⟨by decide, _, converting_current, rfl, rfl, rfl⟩
  · unfold State.TimerFits
    rw [converting_round]
    decide
  · show converting.store.snapshot = none
    rfl

theorem witness_MeasurementUsesLiveValues : converting.Measuring ∧ converting.HopsFit := by
  refine ⟨?_, ?_⟩
  · intro m h
    rw [converting_current] at h
    obtain rfl := Option.some.inj h
    decide
  · unfold State.HopsFit
    decide

/-- A round with its last conversion to come, its other results VALID, channel 9 in CAL with two samples and channel 13 in
PROX. -/
def measured : State :=
  ((lastOf .active fullRound 0).withKeys
    (put (put (panelAt .active).keys 9 { calKey with acc := ⟨1200, 2, 600, 600, 1⟩ })
      13 { calKey with state := .prox })).withPending [.conversion 600]

theorem witness_KeysFitList_baselines :
    measured.Controlled ∧ measured.OffUnlisted ∧ measured.Measuring ∧ measured.BaselinesFit := by
  refine ⟨?_, ?_, ?_, ?_, ?_, ?_⟩
  · show measured.ScanFits
    refine ⟨rfl, ⟨by decide, lastConversion 0, rfl, rfl, by decide, by decide⟩, ?_, rfl, fun h => absurd h (by decide)⟩
    unfold State.TimerFits
    rw [show measured.scan.round = some fullRound from rfl]
    decide
  · show ∀ c : Channel, measured.keys[c].state = .off ↔ panel.listed c = false
    decide
  · intro m h
    obtain rfl : lastConversion 0 = m := Option.some.inj h
    decide
  · show ∀ c : Channel, measured.keys[c].state.baselineInUse = true →
      panel.channels[c].floor.toNat ≤ measured.keys[c].baseline ∧
        measured.keys[c].baseline < panel.channels[c].ceiling.toNat
    decide
  · show ∀ c : Channel, measured.keys[c].state = .cal →
      measured.keys[c].acc.samples * panel.channels[c].floor.toNat ≤ measured.keys[c].acc.sum ∧
        measured.keys[c].acc.sum + measured.keys[c].acc.samples ≤
          measured.keys[c].acc.samples * panel.channels[c].ceiling.toNat
    decide
  · intro r h
    obtain rfl : fullRound = r := Option.some.inj h
    decide

theorem witness_LinesFollowTargets : converting.LinesRest := by
  unfold State.LinesRest State.LineRests
  decide

theorem witness_GroupsFitKeys : converting.GroupsFit := by
  have h : ∀ (g : GroupId) (c : Channel), converting.keys[c].state ≠ .pressed := by decide
  intro g
  refine ⟨?_, fun _ c _ d _ hc => absurd hc (h g c)⟩
  unfold State.GroupFits
  revert g
  decide

theorem witness_QuietModesStayQuiet : converting.ModeQuiet ∧ (panelAt .doze).ModeQuiet :=
  ⟨⟨fun h => absurd h (by decide), fun h => absurd h (by decide)⟩,
    ⟨fun h => absurd h (by decide), fun _ => by decide⟩⟩

theorem witness_ModeChangesByTable :
    converting.Controlled ∧ exec (.conversion 600) running = .next (after (.conversion 600) running) :=
  ⟨witness_ControlStaysCoherent, rfl⟩

end Sys2Proof.Tests
end

section
/-! SUPPORT. What the units of the part work on, and the ways an event changes it: the inversion that every invariant of
the controller, the engine, the keys and the command unit is derived from. -/

namespace Sys2Proof.Machine

/-- What the controller, the engine, the detection unit, the trim unit and the command unit work on: the state without
the port, the queue, the lines, the staging copy, and the flags, counters and report registers. -/
structure Workings where
  live : Configuration
  snapshot : Option Configuration
  engine : Engine
  mode : Mode
  round : Option Round
  timer : Option Nat
  due : Bool
  keys : Vector KeyRecord 24
  groups : Vector GroupRun 6
  work : Option InProgress
  trimRun : Option TrimRun

def State.workings (s : State) : Workings where
  live := s.store.live
  snapshot := s.store.snapshot
  engine := s.engine
  mode := s.scan.mode
  round := s.scan.round
  timer := s.scan.timer
  due := s.scan.due
  keys := s.keys
  groups := s.groups
  work := s.command.inProgress
  trimRun := s.trimRun

theorem State.workings_eq_iff {s t : State} :
    t.workings = s.workings ↔
      (t.live = s.live ∧ t.store.snapshot = s.store.snapshot ∧ t.engine = s.engine ∧
        t.scan.mode = s.scan.mode ∧ t.scan.round = s.scan.round ∧ t.scan.timer = s.scan.timer ∧
        t.scan.due = s.scan.due ∧ t.keys = s.keys ∧ t.groups = s.groups ∧
        t.command.inProgress = s.command.inProgress ∧ t.trimRun = s.trimRun) := by
  simp [State.workings, State.live]

/-! ## Operations that leave the workings alone -/

@[simp] theorem State.withPort_workings (s : State) (x : HostPort) : (s.withPort x).workings = s.workings := rfl
@[simp] theorem State.withQueue_workings (s : State) (x : EventQueue) : (s.withQueue x).workings = s.workings := rfl
@[simp] theorem State.withLines_workings (s : State) (x : Vector IndicatorLine 8) :
    (s.withLines x).workings = s.workings := rfl
@[simp] theorem State.withPower_workings (s : State) (x : Power) : (s.withPower x).workings = s.workings := rfl
@[simp] theorem State.withFreeDraws_workings (s : State) (x : Nat) : (s.withFreeDraws x).workings = s.workings := rfl
@[simp] theorem State.withPending_workings (s : State) (x : List Instr) :
    (s.withPending x).workings = s.workings := rfl

@[simp] theorem State.driveFrom_workings (b s : State) : (State.driveFrom b s).workings = s.workings := rfl
@[simp] theorem State.offer_workings (s : State) (r : EventRecord) : (s.offer r).workings = s.workings := rfl
@[simp] theorem State.offerAll_workings (s : State) (rs : List EventRecord) :
    (s.offerAll rs).workings = s.workings := rfl
@[simp] theorem State.pointAfter_workings (s : State) (a : Byte) (d : Direction) :
    (s.pointAfter a d).workings = s.workings := rfl
@[simp] theorem State.leave_workings (s : State) (d : Direction) (n : Byte) : (s.leave d n).workings = s.workings := rfl
@[simp] theorem State.setPointer_workings (s : State) (v : Byte) : (s.setPointer v).workings = s.workings := rfl
@[simp] theorem State.ignoreWrite_workings (s : State) : s.ignoreWrite.workings = s.workings := rfl
@[simp] theorem State.startFrame_workings (s : State) : s.startFrame.workings = s.workings := rfl
@[simp] theorem State.endPulse_workings (s : State) : s.endPulse.workings = s.workings := rfl
@[simp] theorem State.rejectCommand_workings (s : State) : s.rejectCommand.workings = s.workings := rfl
@[simp] theorem State.endCommand_workings (s : State) (code : Byte) (r : ResultCode) (d : Byte) :
    (s.endCommand code r d).workings = s.workings := by
  unfold State.endCommand
  split <;> rfl

@[simp] theorem State.takeFlush_workings (s : State) : s.takeFlush.workings = s.workings := by
  simp [State.takeFlush]

@[simp] theorem State.refuse_workings (s : State) (n : CommandName) (r : ResultCode) :
    (s.refuse n r).workings = s.workings := by
  simp [State.refuse]

@[simp] theorem State.takeReset_workings (s : State) : s.takeReset.workings = s.workings := by
  unfold State.takeReset
  split
  · rfl
  · simp

@[simp] theorem State.expireFadeTimer_workings (s : State) (i : LineId) :
    (s.expireFadeTimer i).workings = s.workings := by
  unfold State.expireFadeTimer
  split <;> rfl

@[simp] theorem State.endStartUp_workings (s : State) : s.endStartUp.workings = s.workings := by
  unfold State.endStartUp
  split <;> rfl

@[simp] theorem State.hostRead_workings (s : State) (a : Byte) : (s.hostRead a).workings = s.workings := by
  simp [State.workings]

/-! ## Bytes written by the host -/

theorem State.writeLinePage_workings (s : State) (a : Nat) (v : Byte) :
    (s.writeLinePage a v).workings = s.workings := by
  simp [State.workings]

theorem State.writeStaging_workings (s : State) (p a : Nat) (v : Byte) :
    (s.writeStaging p a v).workings = s.workings := by
  unfold State.writeStaging
  split <;> rfl

theorem State.writeAttnMode_workings (s : State) (v : Byte) : (s.writeAttnMode v).workings = s.workings := by
  simp [State.workings]

theorem State.writeCommon_workings (s : State) {a : Nat} (h : a ≠ 0x06) (v : Byte) :
    (s.writeCommon a v).workings = s.workings := by
  simp only [State.writeCommon, h, if_false]
  repeat' split
  · rfl
  · rfl
  · rfl
  · rfl
  · exact s.writeAttnMode_workings v
  · rfl
  · rfl

/-- A byte written outside CMD changes nothing the units work on. -/
theorem State.writeAt_workings (s : State) {a : Byte} (h : a ≠ 0x06) (v : Byte) :
    (s.writeAt a v).workings = s.workings := by
  unfold State.writeAt State.writePaged
  repeat' split
  · exact s.writeCommon_workings (fun e => h (BitVec.eq_of_toNat_eq e)) v
  · exact s.writeStaging_workings _ _ v
  · exact s.writeLinePage_workings _ v
  · rfl

theorem State.writeAt_cmd (s : State) (v : Byte) : s.writeAt 0x06 v = s.commandRequest v := rfl

theorem commandOf_eq_some {code : Byte} {n : CommandName} (h : commandOf code = some n) : code = n.code := by
  have : (n.code == code) = true := List.find?_some (p := fun n : CommandName => n.code == code) h
  exact (eq_of_beq this).symm

/-- A byte written to CMD: a command that is taken, or nothing that the units work on. -/
theorem State.commandRequest_workings (s : State) (code : Byte) :
    (s.commandRequest code).workings = s.workings ∨
      ∃ n : CommandName, code = n.code ∧ (s.command.inProgress = none ∨ n.takenWhenBusy = true) ∧
        s.commandRequest code = s.takeCommand n := by
  unfold State.commandRequest
  split
  · exact .inl rfl
  split
  · split <;> simp
  next n hn =>
    split
    · exact .inl rfl
    next hb =>
      refine .inr ⟨n, commandOf_eq_some hn, ?_, rfl⟩
      simpa [State.busy, or_iff_not_imp_left, Option.isSome_iff_ne_none] using hb

/-! ## Bytes on the bus -/

/-- A byte that begins a transaction has its effect or none, on the part or on one that has drawn a free value. -/
theorem State.beginTransaction_cases (s : State) (d : Direction) (n : Byte) (f : State → State) :
    ∃ u : State, u.workings = s.workings ∧ u.port.pointer = s.port.pointer ∧
      (s.beginTransaction d n f = u ∨ s.beginTransaction d n f = f u) := by
  cases hp : s.power with
  | heldInReset => exact ⟨s.leave d n, rfl, rfl, .inl (State.beginTransaction_of_held hp d n f)⟩
  | answering => exact ⟨s, rfl, rfl, .inr (State.beginTransaction_of_answering hp d n f)⟩
  | startUp =>
    rw [State.beginTransaction_of_startUp hp]
    split
    · exact ⟨s.withFreeDraws (s.freeDraws + 1), rfl, rfl, .inr rfl⟩
    · exact ⟨(s.withFreeDraws (s.freeDraws + 1)).leave d n, rfl, rfl, .inl rfl⟩

theorem State.furtherByte_cases (s : State) (d : Direction) (f : State → State) :
    ∃ u : State, u.workings = s.workings ∧ u.port.pointer = s.port.pointer ∧
      (s.furtherByte d f = u ∨ s.furtherByte d f = f u) := by
  unfold State.furtherByte
  split
  · split
    · exact ⟨s, rfl, rfl, .inr rfl⟩
    · exact ⟨s, rfl, rfl, .inl rfl⟩
  next n _ =>
    split
    · exact ⟨s.leave .write (n + 1), rfl, rfl, .inl rfl⟩
    · exact ⟨s, rfl, rfl, .inl rfl⟩
  · exact ⟨s, rfl, rfl, .inl rfl⟩

theorem State.onBus_cases (s : State) (d : Direction) (a : Byte) (f : State → State) :
    ∃ u : State, u.workings = s.workings ∧ u.port.pointer = s.port.pointer ∧
      (s.onBus d a f = u ∨ s.onBus d a f = f u) := by
  unfold State.onBus
  split
  · exact s.furtherByte_cases d f
  · exact s.beginTransaction_cases d _ f

/-- A row that stands for a byte written at one address. -/
theorem exec_of_writtenAt {i : Instr} {a v : Byte} (h : writtenAt i = some (a, v)) (s : State) :
    exec i s = .next (s.onBus .write a fun s => s.hostWrite a v) := by
  cases i with
  | fadeIntervalWrite line value =>
    obtain ⟨rfl, rfl⟩ := Prod.mk.inj (Option.some.inj h)
    have : BitVec.ofNat 8 (0x24 + 8 * line.val) = itemAddress line 4 := by
      rw [itemAddress]
      congr 1
      omega
    rw [this]
    rfl
  | _ => cases h <;> rfl

/-! ## The inversion -/

/-- How the event `i` takes the workings of `s` to those of `t`. The effect is that of a command, a conversion, a round
timer or a reset on a state `u` with the workings of `s`. -/
inductive WorkingsStep (i : Instr) (s t : State) : Prop
  | unchanged (ht : t.workings = s.workings)
  | command (u : State) (n : CommandName) (hu : u.workings = s.workings)
      (hi : commandCodeOf i s.port.pointer = some n.code)
      (taken : u.command.inProgress = none ∨ n.takenWhenBusy = true) (ht : t.workings = (u.takeCommand n).workings)
  | conversion (u : State) (cycles : Nat) (hu : u.workings = s.workings) (hi : i = .conversion cycles)
      (ht : t.workings = (u.endConversion cycles).workings)
  | roundTimer (u : State) (hu : u.workings = s.workings) (hi : i = .roundTimerExpiry)
      (ht : t.workings = u.expireRoundTimer.workings)
  | warmReset (u : State) (hu : u.workings = s.workings) (hi : i = .warmReset)
      (ht : t.workings = u.warmReset.workings)
  | powerOn (hi : isReset i = true) (ht : t.workings = State.reset.workings)

theorem hostWrite_workingsStep {i : Instr} {s u : State} {a v : Byte} (hu : u.workings = s.workings)
    (hi : a = 0x06 → commandCodeOf i s.port.pointer = some v) : WorkingsStep i s (u.hostWrite a v) := by
  have hw : (u.hostWrite a v).workings = (u.writeAt a v).workings := rfl
  by_cases ha : a = 0x06
  · subst ha
    rw [State.writeAt_cmd] at hw
    obtain h | ⟨n, rfl, taken, h⟩ := u.commandRequest_workings v
    · exact .unchanged (hw.trans (h.trans hu))
    · exact .command u n hu (hi rfl) taken (h ▸ hw)
  · exact .unchanged (hw.trans ((u.writeAt_workings ha v).trans hu))

/-- A row that stands for a byte at CMD is a command row. -/
theorem commandCodeOf_of_writtenAt {i : Instr} {a v p : Byte} (h : writtenAt i = some (a, v)) (ha : a = 0x06) :
    commandCodeOf i p = some v := by
  cases i with
  | indicatorWrite line item value =>
    have hne : ∀ l : LineId, BitVec.ofNat 8 (0x20 + 8 * l.val + itemOffset item) ≠ (0x06 : Byte) := by
      cases item <;> decide
    cases h
    exact absurd ha (hne line)
  | fadeIntervalWrite line value =>
    have hne : ∀ l : LineId, BitVec.ofNat 8 (0x24 + 8 * l.val) ≠ (0x06 : Byte) := by decide
    cases h
    exact absurd ha (hne line)
  | stickyFlagsWrite | eventFilterWrite | attnModeWrite | pageSelectorWrite =>
    cases h
    exact absurd ha (by decide)
  | _ => cases h <;> rfl

/-- Only the workings before and after count, and where the register pointer stands. -/
theorem WorkingsStep.congr {i : Instr} {s s' t t' : State} (hs : s.workings = s'.workings)
    (hp : s.port.pointer = s'.port.pointer) (ht : t'.workings = t.workings) (h : WorkingsStep i s t) :
    WorkingsStep i s' t' := by
  cases h with
  | unchanged h => exact .unchanged (ht.trans (h.trans hs))
  | command u n hu hi taken h => exact .command u n (hu.trans hs) (hp ▸ hi) taken (ht.trans h)
  | conversion u n hu hi h => exact .conversion u n (hu.trans hs) hi (ht.trans h)
  | roundTimer u hu hi h => exact .roundTimer u (hu.trans hs) hi (ht.trans h)
  | warmReset u hu hi h => exact .warmReset u (hu.trans hs) hi (ht.trans h)
  | powerOn hi h => exact .powerOn hi (ht.trans h)

theorem inside_workingsStep {s : State} {i : Instr} {f : State → State} (h : WorkingsStep i s (f s)) :
    WorkingsStep i s (s.inside f) := by
  unfold State.inside
  split
  · exact .unchanged rfl
  · exact h.congr rfl rfl (State.driveFrom_workings _ _)

theorem onBus_read_workingsStep (i : Instr) (s : State) (a : Byte) (b : State → Byte) :
    WorkingsStep i s (s.onBus .read a fun s => s.hostRead (b s)) := by
  obtain ⟨u, hu, -, e | e⟩ := s.onBus_cases .read a fun s => s.hostRead (b s)
  · exact .unchanged (by rw [e, hu])
  · exact .unchanged (by rw [e, State.hostRead_workings, hu])

/-- Every event changes the workings in one of the ways of `WorkingsStep`. -/
theorem exec_workings {i : Instr} {s t : State} (h : exec i s = .next t) : WorkingsStep i s t := by
  cases hw : writtenAt i with
  | some av =>
    obtain ⟨a, v⟩ := av
    rw [exec_of_writtenAt hw, Host.Outcome.next.injEq] at h
    obtain ⟨u, hu, -, e | e⟩ := s.onBus_cases .write a fun s => s.hostWrite a v
    · exact .unchanged (by rw [← h, e, hu])
    · rw [← h, e]
      exact hostWrite_workingsStep hu (commandCodeOf_of_writtenAt hw)
  | none =>
    cases i with
    | registerWrite value =>
      obtain rfl := Host.Outcome.next.inj h
      obtain ⟨u, hu, hp, e | e⟩ := s.furtherByte_cases .write fun s => s.hostWrite s.port.pointer value
      · exact .unchanged (by rw [e, hu])
      · rw [e]
        exact hostWrite_workingsStep hu (fun h6 => if_pos (hp ▸ h6))
    | registerPointer value =>
      obtain rfl := Host.Outcome.next.inj h
      obtain ⟨u, hu, -, e | e⟩ := s.beginTransaction_cases .write value fun s => s.setPointer value
      · exact .unchanged (by rw [e, hu])
      · exact .unchanged (by rw [e, State.setPointer_workings, hu])
    | hold =>
      obtain rfl := Host.Outcome.next.inj h
      exact onBus_read_workingsStep _ s _ _
    | pop =>
      obtain rfl := Host.Outcome.next.inj h
      exact onBus_read_workingsStep _ s _ _
    | latchedFieldRead =>
      obtain rfl := Host.Outcome.next.inj h
      exact onBus_read_workingsStep _ s _ _
    | roundTimerExpiry =>
      obtain rfl := Host.Outcome.next.inj h
      exact inside_workingsStep (.roundTimer s rfl rfl rfl)
    | conversion cycles =>
      obtain rfl := Host.Outcome.next.inj h
      exact inside_workingsStep (.conversion s cycles rfl rfl rfl)
    | fadeTimerExpiry line =>
      obtain rfl := Host.Outcome.next.inj h
      exact inside_workingsStep (.unchanged (s.expireFadeTimer_workings line))
    | pulseTimerExpiry =>
      obtain rfl := Host.Outcome.next.inj h
      exact inside_workingsStep (.unchanged s.endPulse_workings)
    | pwmFrame =>
      obtain rfl := Host.Outcome.next.inj h
      exact inside_workingsStep (.unchanged s.startFrame_workings)
    | startUpTimeEnd =>
      obtain rfl := Host.Outcome.next.inj h
      exact .unchanged s.endStartUp_workings
    | resetnAssert =>
      obtain rfl := Host.Outcome.next.inj h
      exact .powerOn rfl rfl
    | resetnRelease addrHigh =>
      obtain rfl := Host.Outcome.next.inj h
      exact .powerOn rfl rfl
    | coldReset =>
      obtain rfl := Host.Outcome.next.inj h
      unfold State.endTransaction
      split
      · exact .powerOn rfl rfl
      · exact .unchanged rfl
    | warmReset =>
      obtain rfl := Host.Outcome.next.inj h
      unfold State.endTransaction
      split
      · exact .warmReset s rfl rfl rfl
      · exact .unchanged rfl
    | _ => cases hw

/-- A step idles, or carries out the event at the front of the queue. -/
theorem step_workings {s t : State} (h : step s = .next t) : t = s ∨ ∃ i, WorkingsStep i s t := by
  unfold step at h
  split at h
  · exact .inl (Host.Outcome.next.inj h).symm
  next i rest _ => exact .inr ⟨i, WorkingsStep.congr (s := s.withPending rest) rfl rfl rfl (exec_workings h)⟩

end Sys2Proof.Machine
end

section
/-! SUPPORT. The controller, the engine, the trim unit and the command unit through the shared operations: rounds that
end, start and go on, the trim search, and the commands. -/

namespace Sys2Proof.Machine

/-! ## The coherence of the units, mode by mode -/

/-- The coherence of the units reads their workings alone. -/
theorem State.Controlled.congr {s t : State} (h : t.workings = s.workings) (hs : s.Controlled) : t.Controlled := by
  obtain ⟨hlive, hsnap, heng, hmode, hround, htimer, hdue, hkeys, -, hwork, htrim⟩ := State.workings_eq_iff.1 h
  simpa only [State.Controlled, State.StoppedFits, State.TrimFits, State.ScanFits, State.RoundFits, State.TimerFits,
    State.WorkFits, hlive, hsnap, heng, hmode, hround, htimer, hdue, hkeys, hwork, htrim] using hs

/-- The controller is in ACTIVE or DOZE. -/
def State.Scans (s : State) : Prop := s.scan.mode = .active ∨ s.scan.mode = .doze

theorem State.controlled_of_stopped {s : State} (h : s.scan.mode = .stopped) : s.Controlled ↔ s.StoppedFits := by
  simp [State.Controlled, h]

theorem State.controlled_of_trim {s : State} (h : s.scan.mode = .trim) : s.Controlled ↔ s.TrimFits := by
  simp [State.Controlled, h]

theorem State.controlled_of_scans {s : State} (h : s.Scans) : s.Controlled ↔ s.ScanFits := by
  obtain h | h := h <;> simp [State.Controlled, h]

/-- The work in progress fits the mode, the pending snapshot and the keys, whatever else changes. -/
theorem State.WorkFits.congr {s t : State} (h : s.WorkFits)
    (hwork : t.command.inProgress = s.command.inProgress) (hsnap : t.store.snapshot = s.store.snapshot)
    (hmode : t.scan.mode = s.scan.mode) (hkeys : t.keys = s.keys) : t.WorkFits := by
  simpa only [State.WorkFits, hwork, hsnap, hmode, hkeys] using h

/-- With the command unit IDLE the work fits exactly when no snapshot is pending. -/
theorem State.workFits_of_idle {s : State} (h : s.command.inProgress = none) :
    s.WorkFits ↔ s.store.snapshot = none := by
  simp [State.WorkFits, h]

/-! ## A scanning part whose engine is IDLE -/

/-- What holds between the end of a round's last measurement and the next request. -/
structure State.EngineFree (s : State) : Prop where
  scans : s.Scans
  idle : s.engine.current = none
  noTrim : s.trimRun = none
  work : s.WorkFits

theorem State.EngineFree.congr {s t : State} (h : s.EngineFree)
    (hwork : t.command.inProgress = s.command.inProgress) (hsnap : t.store.snapshot = s.store.snapshot)
    (hmode : t.scan.mode = s.scan.mode) (hkeys : t.keys = s.keys)
    (heng : t.engine.current = s.engine.current) (htrim : t.trimRun = s.trimRun) : t.EngineFree where
  scans := by simpa only [State.Scans, hmode] using h.scans
  idle := heng.trans h.idle
  noTrim := htrim.trans h.noTrim
  work := h.work.congr hwork hsnap hmode hkeys

/-- Between rounds the part is coherent when its timer runs and nothing is due. -/
theorem State.EngineFree.controlled {s : State} (h : s.EngineFree) (hround : s.scan.round = none)
    (htimer : s.scan.timer ≠ none) (hdue : s.scan.due = false) : s.Controlled := by
  rw [State.controlled_of_scans h.scans]
  refine ⟨h.noTrim, ?_, ?_, h.work, ?_⟩
  · simp [State.RoundFits, hround, h.idle]
  · simp [State.TimerFits, hround, htimer, hdue]
  · simp [hround]

/-! ## The end of a round -/

@[simp] theorem State.evaluated_frame (s : State) (rs : List MeasResult) :
    (s.evaluated rs).power = s.power ∧ (s.evaluated rs).port = s.port ∧ (s.evaluated rs).store = s.store ∧
      (s.evaluated rs).engine = s.engine ∧ (s.evaluated rs).trimRun = s.trimRun ∧
      (s.evaluated rs).lines = s.lines ∧ (s.evaluated rs).freeDraws = s.freeDraws ∧
      (s.evaluated rs).pending = s.pending := by
  simp [State.evaluated]

@[simp] theorem State.evaluated_scan (s : State) (rs : List MeasResult) :
    (s.evaluated rs).scan = { s.scan with counter := s.scan.counter + 1, round := none } := rfl

@[simp] theorem State.evaluated_command (s : State) (rs : List MeasResult) :
    (s.evaluated rs).command = (s.command.afterEvaluation (s.evaluated rs).keys).1 := rfl

/-- A RECAL that goes on waiting after an evaluation waits for keys in CAL (4, R75). -/
theorem State.WorkFits.evaluated {s : State} (h : s.WorkFits) (rs : List MeasResult) : (s.evaluated rs).WorkFits := by
  unfold State.WorkFits at h ⊢
  rw [State.evaluated_command]
  unfold CommandUnit.afterEvaluation
  split at h
  next hw => simpa [hw] using h
  next hw => simpa [hw] using h
  next waiting faulted a b hw =>
    obtain ⟨hsnap, hmode, -, -⟩ := h
    simp only [hw]
    by_cases hstill : (waiting.filter fun c => (s.evaluated rs).keys[c].state == .cal) = []
    · simp only [hstill, if_true]
      exact hsnap
    · simp only [hstill, if_false]
      exact ⟨hsnap, hmode, hstill, fun c hc => by simpa using (List.mem_filter.1 hc).2⟩
  next => exact h.elim

theorem State.EngineFree.evaluated {s : State} (h : s.EngineFree) (rs : List MeasResult) :
    (s.evaluated rs).EngineFree :=
  ⟨h.scans, h.idle, h.noTrim, h.work.evaluated rs⟩

/-- While a RECAL waits, a key in CAL keeps the part out of DOZE (10, R160, R161). -/
theorem quietCount_of_cal {keys : Vector KeyRecord 24} {c : Channel} (h : keys[c].state = .cal) (count : Nat) :
    quietCount keys count = 0 := by
  rw [quietCount, if_neg]
  intro hq
  have := hq c
  rw [h] at this
  simp at this

theorem State.EngineFree.inactivityCheck {s : State} (h : s.EngineFree) : s.inactivityCheck.EngineFree := by
  by_cases hd : dozesAt s.live (quietCount s.keys s.scan.inactivity)
  · rw [State.inactivityCheck_of_dozes hd]
    refine ⟨.inr rfl, h.idle, h.noTrim, ?_⟩
    have hwork := h.work
    unfold State.WorkFits at hwork ⊢
    simp only [State.offer_frame, State.withScan_command, State.withScan_store, State.withScan_keys]
    split at hwork
    next hw => simpa only [hw] using hwork
    next hw => simpa only [hw] using hwork
    next waiting faulted a b hw =>
      obtain ⟨-, -, hne, hcal⟩ := hwork
      obtain ⟨c, hc⟩ := List.exists_mem_of_ne_nil waiting hne
      rw [dozesAt, quietCount_of_cal (hcal c hc)] at hd
      omega
    next => exact hwork.elim
  · rw [State.inactivityCheck_of_stays hd]
    exact h.congr rfl rfl rfl rfl rfl rfl

/-- The work in progress in DOZE is no RECAL, so it fits whatever mode the part changes to. -/
theorem State.WorkFits.changeMode_of_doze {s : State} (h : s.WorkFits) (hm : s.scan.mode = .doze) (m : Mode)
    (cause : ModeCause) (b : Byte) : (s.changeMode m cause b).WorkFits := by
  unfold State.WorkFits at h ⊢
  simp only [State.changeMode_frame]
  split at h
  next hw => simpa only [hw] using h
  next hw => simpa only [hw] using h
  next hw =>
    obtain ⟨-, hactive, -, -⟩ := h
    rw [hm] at hactive
    cases hactive
  next => exact h.elim

theorem State.EngineFree.wakeKeyCheck {s : State} (h : s.EngineFree) : s.wakeKeyCheck.EngineFree := by
  unfold State.wakeKeyCheck
  split
  next hm =>
    split
    next c _ =>
      exact ⟨.inl rfl, h.idle, h.noTrim,
        (h.work.changeMode_of_doze hm .active .wakeKey (idByte c)).congr rfl rfl rfl rfl⟩
    · exact h
  · exact h

theorem State.EngineFree.finishRound {s : State} (h : s.EngineFree) (kind : RoundKind) (rs : List MeasResult) :
    (s.finishRound kind rs).EngineFree := by
  cases kind with
  | active => rw [State.finishRound_active]; exact (h.evaluated rs).inactivityCheck
  | doze => rw [State.finishRound_doze]; exact (h.evaluated rs).wakeKeyCheck

/-- The inactivity check leaves the timer and the due flag, or it sets the timer one doze period ahead. -/
theorem State.inactivityCheck_scan (s : State) :
    s.inactivityCheck.scan.round = s.scan.round ∧
      ((s.inactivityCheck.scan.timer = s.scan.timer ∧ s.inactivityCheck.scan.due = s.scan.due ∧
          s.inactivityCheck.scan.mode = s.scan.mode) ∨
        (s.inactivityCheck.scan.timer ≠ none ∧ s.inactivityCheck.scan.due = false)) := by
  by_cases hd : dozesAt s.live (quietCount s.keys s.scan.inactivity)
  · rw [State.inactivityCheck_of_dozes hd]
    simp
  · rw [State.inactivityCheck_of_stays hd]
    simp

/-- The search for a wake key leaves the round, the timer and the due flag, and in ACTIVE the mode. -/
theorem State.wakeKeyCheck_scan (s : State) :
    s.wakeKeyCheck.scan.round = s.scan.round ∧ s.wakeKeyCheck.scan.timer = s.scan.timer ∧
      s.wakeKeyCheck.scan.due = s.scan.due ∧ (s.scan.mode = .active → s.wakeKeyCheck.scan.mode = .active) := by
  unfold State.wakeKeyCheck
  split
  next hm =>
    split
    · simp [State.clearInactivity]
    · simp [hm]
  · simp

@[simp] theorem State.finishRound_round (s : State) (kind : RoundKind) (rs : List MeasResult) :
    (s.finishRound kind rs).scan.round = none := by
  cases kind with
  | active => rw [State.finishRound_active, (State.inactivityCheck_scan _).1]; rfl
  | doze => rw [State.finishRound_doze, (State.wakeKeyCheck_scan _).1]; rfl

/-- A round that ends leaves a running timer and a clear due flag as they are, or sets them so. -/
theorem State.finishRound_timer {s : State} (htimer : s.scan.timer ≠ none) (hdue : s.scan.due = false)
    (kind : RoundKind) (rs : List MeasResult) :
    (s.finishRound kind rs).scan.timer ≠ none ∧ (s.finishRound kind rs).scan.due = false := by
  cases kind with
  | active =>
    rw [State.finishRound_active]
    obtain ⟨-, ⟨ht, hd, -⟩ | h⟩ := (s.evaluated rs).inactivityCheck_scan
    · rw [ht, hd]
      exact ⟨htimer, hdue⟩
    · exact h
  | doze =>
    rw [State.finishRound_doze]
    obtain ⟨-, ht, hd, -⟩ := (s.evaluated rs).wakeKeyCheck_scan
    rw [ht, hd]
    exact ⟨htimer, hdue⟩

theorem State.EngineFree.finishRound_controlled {s : State} (h : s.EngineFree) (htimer : s.scan.timer ≠ none)
    (hdue : s.scan.due = false) (kind : RoundKind) (rs : List MeasResult) : (s.finishRound kind rs).Controlled :=
  have ⟨ht, hd⟩ := State.finishRound_timer htimer hdue kind rs
  (h.finishRound kind rs).controlled (State.finishRound_round s kind rs) ht hd

/-! ## The start of a round -/

/-- A request for the first channel of a round that has just been set up. -/
theorem State.EngineFree.begin_controlled {s : State} (h : s.EngineFree) {kind : RoundKind} {c : Channel}
    {rest : List Channel} (hm : s.live.measuredChannels kind = c :: rest)
    (hk : s.scan.mode = .doze ↔ kind = .doze) (period : Nat) :
    ((s.withScan { s.scan with round := some ⟨kind, c :: rest, []⟩, timer := some period, due := false }).requestScan
      c).Controlled := by
  rw [State.controlled_of_scans (by simpa [State.Scans] using h.scans)]
  refine ⟨by simpa using h.noTrim, ?_, ?_, ?_, ?_⟩
  · simpa [State.RoundFits, State.live, Configuration.measurementOf] using hm.symm
  · have : ¬ (s.scan.mode = .active ∧ kind = .doze) := fun ⟨ha, hd⟩ => by simp [hk.2 hd] at ha
    simp [State.TimerFits, this]
  · exact h.work.congr (by simp) (by simp) (by simp) (by simp)
  · simpa using hk.1

theorem roundKindOf_eq_doze (m : Mode) : m = .doze ↔ roundKindOf m = .doze := by
  cases m <;> simp [roundKindOf]

theorem State.EngineFree.launchRound_controlled {s : State} (h : s.EngineFree) : s.launchRound.Controlled := by
  unfold State.launchRound
  dsimp only
  split
  · refine State.EngineFree.finishRound_controlled ?_ ?_ ?_ _ []
    · exact h.congr rfl rfl rfl rfl rfl rfl
    · simp
    · rfl
  next c rest hm =>
    rw [hm]
    exact h.begin_controlled hm (roundKindOf_eq_doze _) _

/-- The install leaves no snapshot pending and no command in progress; in DOZE it brings ACTIVE (8, R141, R146). -/
theorem State.install_units (s : State) (new : Configuration) :
    (s.install new).store.snapshot = none ∧ (s.install new).store.live = new ∧
      (s.install new).command.inProgress = none ∧ (s.install new).engine.current = s.engine.current ∧
      (s.install new).scan =
        (if s.scan.mode = .doze then { s.scan with mode := .active, inactivity := 0 } else s.scan) := by
  refine ⟨by simp [State.install, State.installCopy], by simp [State.install, State.installCopy], ?_,
    by simp [State.install, State.installCopy], ?_⟩
  · simp [State.install, State.leaveBusy, CommandUnit.reporting]
  · simp only [State.install, State.wakeByInstall, State.endCommand_frame, State.leaveBusy_frame,
      State.installCopy_frame]
    split <;> simp [State.clearInactivity]

theorem State.EngineFree.installPending {s : State} (h : s.EngineFree) : s.installPending.EngineFree := by
  unfold State.installPending
  split
  next new _ =>
    obtain ⟨hsnap, -, hwork, heng, hscan⟩ := s.install_units new
    refine ⟨?_, heng.trans h.idle, by simpa using h.noTrim, (State.workFits_of_idle hwork).2 hsnap⟩
    rw [State.Scans, hscan]
    obtain hm | hm := h.scans <;> simp [hm]
  · exact h

theorem State.EngineFree.startRound_controlled {s : State} (h : s.EngineFree) : s.startRound.Controlled :=
  h.installPending.launchRound_controlled

/-! ## A round goes on, or completes -/

/-- The completion of a round in flight whose timer and due flag fit. -/
theorem State.EngineFree.completeRound_controlled {s : State} {r : Round} (h : s.EngineFree)
    (hr : s.scan.round = some r) (ht : s.TimerFits) (rs : List MeasResult) :
    (s.completeRound r.kind rs).Controlled := by
  have hfree := h.finishRound r.kind rs
  unfold State.completeRound
  dsimp only
  split
  · exact hfree.startRound_controlled
  next hstart =>
    simp only [State.startsAtCompletion, Bool.not_eq_true, Bool.or_eq_false_iff, Bool.and_eq_false_iff,
      beq_eq_false_iff_ne] at hstart
    obtain ⟨hmode, hdue⟩ := hstart
    refine hfree.controlled (State.finishRound_round _ _ _) ?_ hdue
    simp only [State.TimerFits, hr] at ht
    cases hk : r.kind with
    | active =>
      rw [hk, State.finishRound_active] at hdue
      rw [State.finishRound_active]
      obtain ⟨-, ⟨htimer, hd, -⟩ | ⟨htimer, -⟩⟩ := (s.evaluated rs).inactivityCheck_scan
      · rw [hd] at hdue
        rw [htimer]
        simpa [hk, show s.scan.due = false from hdue] using ht
      · exact htimer
    | doze =>
      rw [hk, State.finishRound_doze] at hdue hmode
      rw [State.finishRound_doze]
      obtain ⟨-, htimer, hd, hactive⟩ := (s.evaluated rs).wakeKeyCheck_scan
      rw [hd] at hdue
      rw [htimer]
      have hnot : s.scan.mode ≠ .active := fun hm => hmode.elim (by simp) (fun hn => hn (hactive hm))
      simpa [hk, hnot, show s.scan.due = false from hdue] using ht

/-- A scan measurement belongs to the round in flight of a scanning part. -/
theorem State.Controlled.scan_round {s : State} {m : Measurement} (h : s.Controlled)
    (hm : s.engine.current = some m) (hq : m.requester = .scan) :
    s.Scans ∧ s.ScanFits ∧ ∃ r, s.scan.round = some r := by
  cases hmode : s.scan.mode with
  | stopped =>
    obtain ⟨-, -, -, hidle, -⟩ := (State.controlled_of_stopped hmode).1 h
    rw [hm] at hidle
    cases hidle
  | trim =>
    obtain ⟨-, -, -, -, -, t, m', c, -, hm', -, -, -, -, -, hq'⟩ := (State.controlled_of_trim hmode).1 h
    rw [hm] at hm'
    cases hm'
    rw [hq] at hq'
    cases hq'
  | _ =>
    have hs : s.Scans := by simp [State.Scans, hmode]
    have hfit := (State.controlled_of_scans hs).1 h
    refine ⟨hs, hfit, ?_⟩
    obtain ⟨-, hround, -⟩ := hfit
    cases hr : s.scan.round with
    | none => simp [State.RoundFits, hr, hm] at hround
    | some r => exact ⟨r, rfl⟩

/-- A trim measurement belongs to the search in progress. -/
theorem State.Controlled.trim_search {s : State} {m : Measurement} (h : s.Controlled)
    (hm : s.engine.current = some m) (hq : m.requester = .trim) : s.scan.mode = .trim ∧ s.TrimFits := by
  cases hmode : s.scan.mode with
  | stopped =>
    obtain ⟨-, -, -, hidle, -⟩ := (State.controlled_of_stopped hmode).1 h
    rw [hm] at hidle
    cases hidle
  | trim => exact ⟨rfl, (State.controlled_of_trim hmode).1 h⟩
  | _ =>
    have hs : s.Scans := by simp [State.Scans, hmode]
    obtain ⟨-, hround, -⟩ := (State.controlled_of_scans hs).1 h
    unfold State.RoundFits at hround
    split at hround
    · rw [hm] at hround
      cases hround
    · obtain ⟨-, m', hm', hq', -⟩ := hround
      rw [hm] at hm'
      cases hm'
      rw [hq] at hq'
      cases hq'

/-- A change of the measurement in progress that keeps its channel and its requester, and of the hop indices. -/
theorem State.Controlled.withMeasurement {s : State} {m m' : Measurement} (h : s.Controlled)
    (hm : s.engine.current = some m) (hc : m'.channel = m.channel) (hq : m'.requester = m.requester)
    (hop : Vector Hop 24) : (s.withEngine ⟨hop, some m'⟩).Controlled := by
  cases hr : m.requester with
  | scan =>
    obtain ⟨hs, ⟨htrim, hround, htimer, hwork, hkind⟩, r, hrd⟩ := h.scan_round hm hr
    rw [State.controlled_of_scans (by exact hs)]
    refine ⟨htrim, ?_, htimer, hwork, hkind⟩
    simp only [State.RoundFits, hrd] at hround
    obtain ⟨hmeas, m'', hm'', hreq, hplace, hres⟩ := hround
    rw [hm] at hm''
    cases hm''
    simp only [State.RoundFits, State.withEngine_scan, hrd]
    exact ⟨hmeas, m', rfl, hq.trans hreq, by rw [hc]; exact hplace, hres⟩
  | trim =>
    obtain ⟨hmode, hround, htimer, hdue, hsnap, hwork, t, m'', c, ht, hm'', hplace, hlist, h1, h7, hch, hreq⟩ :=
      h.trim_search hm hr
    rw [hm] at hm''
    cases hm''
    rw [State.controlled_of_trim (by exact hmode)]
    exact ⟨hround, htimer, hdue, hsnap, hwork, t, m', c, ht, rfl, hplace, hlist, h1, h7, hc.trans hch, hq.trans hreq⟩

/-- The result of a scan measurement: the next channel is requested, or the round completes (2, R25, R26). -/
theorem State.Controlled.receiveScan {s : State} {m : Measurement} (h : s.Controlled)
    (hm : s.engine.current = some m) (hq : m.requester = .scan) {x : MeasResult} (hx : x.channel = m.channel) :
    (s.abandonMeasurement.receiveScan x).Controlled := by
  obtain ⟨hs, ⟨htrim, hround, htimer, hwork, hkind⟩, r, hr⟩ := h.scan_round hm hq
  simp only [State.RoundFits, hr] at hround
  obtain ⟨hmeas, m', hm', -, hplace, hres⟩ := hround
  rw [hm] at hm'
  cases hm'
  simp only [State.receiveScan, State.abandonMeasurement_frame, hr]
  split
  next c _ hdrop =>
    have hnext : r.measured[r.results.length + 1]? = some c := by
      rw [← List.head?_drop]
      simpa using congrArg List.head? hdrop
    rw [State.controlled_of_scans (by simpa [State.Scans] using hs)]
    refine ⟨by simpa using htrim, ?_, ?_, ?_, ?_⟩
    · simp only [State.RoundFits, State.requestScan_frame, State.withScan_scan]
      refine ⟨by simpa [State.live] using hmeas, _, rfl, rfl, by simpa [Configuration.measurementOf] using hnext, ?_⟩
      simp [hres, List.take_add_one, hplace, hx]
    · simpa [State.TimerFits, hr] using htimer
    · exact hwork.congr (by simp) (by simp) (by simp) (by simp)
    · simpa [hr] using hkind
  next =>
    have hfree : s.abandonMeasurement.EngineFree := ⟨hs, rfl, htrim, hwork⟩
    exact hfree.completeRound_controlled hr htimer _

/-! ## The trim search -/

@[simp] theorem TrimRun.decideOn_plan (t : TrimRun) (x : MeasResult) :
    (t.decideOn x).channels = t.channels ∧ (t.decideOn x).pass = t.pass ∧ (t.decideOn x).place = t.place ∧
      (t.decideOn x).lo = t.lo ∧ (t.decideOn x).hi = t.hi := by
  unfold TrimRun.decideOn
  (repeat' split) <;> simp

/-- The search goes on at a place of its list and in one of the seven passes (9, R153). -/
theorem TrimRun.advance_plan {t t' : TrimRun} (h : t.advance = some t') (hp : t.place < t.channels.length)
    (h1 : 1 ≤ t.pass) (h7 : t.pass ≤ 7) :
    t'.channels = t.channels ∧ t'.place < t.channels.length ∧ 1 ≤ t'.pass ∧ t'.pass ≤ 7 := by
  unfold TrimRun.advance at h
  split at h
  next hlt =>
    obtain rfl := Option.some.inj h
    exact ⟨rfl, hlt, h1, h7⟩
  · split at h
    next hpass =>
      obtain rfl := Option.some.inj h
      exact ⟨rfl, Nat.zero_lt_of_lt hp, by simp, hpass⟩
    · cases h

/-- The trim unit's request, at a place of the list. -/
theorem State.requestTrim_eq (s : State) {t : TrimRun} (h : t.place < t.channels.length) :
    s.requestTrim t =
      (s.withTrimRun (some t)).request .trim t.channels[t.place] (t.named t.channels[t.place]) := by
  unfold State.requestTrim
  rw [List.drop_eq_getElem_cons h]

/-- A request of the trim unit, in TRIM, for a channel of the live list. -/
theorem State.requestTrim_controlled {s : State} {t : TrimRun} (hmode : s.scan.mode = .trim)
    (hround : s.scan.round = none) (htimer : s.scan.timer = none) (hdue : s.scan.due = false)
    (hsnap : s.store.snapshot = none) (hwork : ∃ a b, s.command.inProgress = some ⟨.trim, a, b⟩)
    (hlist : t.channels = s.live.scanList) (hplace : t.place < t.channels.length) (h1 : 1 ≤ t.pass)
    (h7 : t.pass ≤ 7) : (s.requestTrim t).Controlled := by
  rw [State.controlled_of_trim (by simpa using hmode)]
  refine ⟨by simpa using hround, by simpa using htimer, by simpa using hdue, by simpa using hsnap,
    by simpa using hwork, t, s.live.measurementOf .trim t.channels[t.place] (t.named t.channels[t.place]),
    t.channels[t.place], ?_, ?_, List.getElem?_eq_getElem hplace, ?_, h1, h7, rfl, rfl⟩
  · rw [s.requestTrim_eq hplace]
    simp
  · rw [s.requestTrim_eq hplace, State.request_engine]
    rfl
  · simpa [State.live] using hlist

/-- The result of a trim measurement: the search goes on, or it is complete (9, R153, R156). -/
theorem State.Controlled.receiveTrim {s : State} {m : Measurement} (h : s.Controlled)
    (hm : s.engine.current = some m) (hq : m.requester = .trim) (x : MeasResult) :
    (s.abandonMeasurement.receiveTrim x).Controlled := by
  obtain ⟨hmode, hround, htimer, hdue, hsnap, hwork, t, -, c, ht, -, hplace, hlist, h1, h7, -⟩ := h.trim_search hm hq
  obtain ⟨hp, -⟩ := List.getElem?_eq_some_iff.1 hplace
  simp only [State.receiveTrim, State.abandonMeasurement_frame, ht]
  split
  next t' ht' =>
    obtain ⟨hch, hp', h1', h7'⟩ :=
      TrimRun.advance_plan ht' (by simpa using hp) (by simpa using h1) (by simpa using h7)
    simp only [TrimRun.decideOn_plan] at hch hp'
    exact State.requestTrim_controlled (by simpa using hmode) (by simpa using hround) (by simpa using htimer)
      (by simpa using hdue) (by simpa using hsnap) (by simpa using hwork) (hch.trans hlist) (hch ▸ hp') h1' h7'
  next =>
    have hidle : s.abandonMeasurement.engine.current = none := rfl
    rw [State.controlled_of_stopped (by simp [State.completeTrim])]
    refine ⟨?_, ?_, ?_, by simpa using hidle, ?_, ?_, ?_⟩
    · simpa [State.completeTrim] using hround
    · simpa [State.completeTrim] using htimer
    · simpa [State.completeTrim] using hdue
    · simp [State.completeTrim]
    · simp [State.completeTrim, State.leaveBusy, CommandUnit.reporting]
    · simpa [State.completeTrim] using hsnap

/-! ## Conversions and the round timer -/

theorem State.Controlled.endConversion {s : State} (h : s.Controlled) (cycles : Nat) :
    (s.endConversion cycles).Controlled := by
  unfold State.endConversion
  split
  · exact h
  next m hm =>
    dsimp only
    split
    · exact h.withMeasurement hm (by rfl) (by rfl) _
    unfold State.endBurst State.retry
    split
    · exact h.withMeasurement hm (by rfl) (by rfl) _
    cases hq : m.requester with
    | scan => exact h.receiveScan hm hq rfl
    | trim => exact h.receiveTrim hm hq _

/-- A scanning part with no round in flight has an IDLE engine. -/
theorem State.ScanFits.engineFree {s : State} (h : s.ScanFits) (hs : s.Scans) (hr : s.scan.round = none) :
    s.EngineFree := by
  obtain ⟨htrim, hround, -, hwork, -⟩ := h
  exact ⟨hs, by simpa [State.RoundFits, hr] using hround, htrim, hwork⟩

/-- The round timer runs in ACTIVE and DOZE only (2, R21). -/
theorem State.Controlled.scans_of_timer {s : State} (h : s.Controlled) (ht : s.scan.timer ≠ none) : s.Scans := by
  cases hmode : s.scan.mode with
  | stopped =>
    obtain ⟨-, hnone, -⟩ := (State.controlled_of_stopped hmode).1 h
    exact absurd hnone ht
  | trim =>
    obtain ⟨-, hnone, -⟩ := (State.controlled_of_trim hmode).1 h
    exact absurd hnone ht
  | _ => simp [State.Scans, hmode]

theorem State.Controlled.expireRoundTimer {s : State} (h : s.Controlled) : s.expireRoundTimer.Controlled := by
  unfold State.expireRoundTimer
  split
  · exact h
  next n ht =>
    have hs := h.scans_of_timer (by simp [ht])
    have hfit := (State.controlled_of_scans hs).1 h
    split
    next hr => exact (hfit.engineFree hs hr).startRound_controlled
    next r hr =>
      obtain ⟨htrim, hround, htimer, hwork, hkind⟩ := hfit
      rw [State.controlled_of_scans (by exact hs)]
      refine ⟨htrim, hround, ?_, hwork, hkind⟩
      simp only [State.TimerFits, hr, ht] at htimer
      simp only [State.TimerFits, State.withScan_scan, hr]
      split at htimer
      · exact absurd htimer.1 (by simp)
      next hk => simp [hk]

/-! ## Commands -/

theorem State.Controlled.takeStart {s : State} (h : s.Controlled) : s.takeStart.Controlled := by
  unfold State.takeStart
  split
  · exact h.congr (by simp)
  next hmode =>
    split
    · exact h.congr (by simp)
    obtain ⟨-, -, -, hidle, htrim, hwork, hsnap⟩ := (State.controlled_of_stopped (by simpa using hmode)).1 h
    have hfree : (((s.changeMode .active .command 0xFF).clearInactivity).endCommand
        CommandName.start.code .ok 0).EngineFree := by
      refine ⟨?_, by simpa using hidle, by simpa using htrim, (State.workFits_of_idle ?_).2 (by simpa using hsnap)⟩
      · simp [State.Scans, State.clearInactivity]
      · simp [hwork, CommandUnit.reporting]
    exact hfree.startRound_controlled

/-- With the command unit IDLE no snapshot is pending. -/
theorem State.Controlled.snapshot_of_idle {s : State} (h : s.Controlled) (hw : s.command.inProgress = none) :
    s.store.snapshot = none := by
  cases hmode : s.scan.mode with
  | stopped =>
    obtain ⟨-, -, -, -, -, -, hsnap⟩ := (State.controlled_of_stopped hmode).1 h
    exact hsnap
  | trim =>
    obtain ⟨-, -, -, hsnap, -⟩ := (State.controlled_of_trim hmode).1 h
    exact hsnap
  | _ =>
    obtain ⟨-, -, -, hwork, -⟩ := (State.controlled_of_scans (by simp [State.Scans, hmode])).1 h
    exact (State.workFits_of_idle hw).1 hwork

/-- In ACTIVE and DOZE the trim unit has no search in progress. -/
theorem State.Controlled.noTrim_of_scans {s : State} (h : s.Controlled) (hs : s.Scans) : s.trimRun = none := by
  obtain ⟨htrim, -⟩ := (State.controlled_of_scans hs).1 h
  exact htrim

theorem State.Controlled.takeStop {s : State} (h : s.Controlled) (hw : s.command.inProgress = none) :
    s.takeStop.Controlled := by
  unfold State.takeStop
  split
  next hmode =>
    rw [State.controlled_of_stopped (by simp)]
    refine ⟨?_, ?_, ?_, ?_, ?_, ?_, ?_⟩
    · simp [State.stopTimer, State.abandonRound]
    · simp [State.stopTimer]
    · simp [State.stopTimer]
    · simp [State.abandonRound, State.abandonMeasurement]
    · simpa using h.noTrim_of_scans hmode
    · simp [hw, CommandUnit.reporting]
    · simpa using h.snapshot_of_idle hw
  · exact h.congr (by simp)

theorem State.Controlled.takeCommit {s : State} (h : s.Controlled) : s.takeCommit.Controlled := by
  unfold State.takeCommit
  split
  · exact h.congr (by simp)
  next htrim =>
    split
    · exact h.congr (by simp)
    split
    next hmode =>
      obtain ⟨hround, htimer, hdue, hidle, hno, -, -⟩ := (State.controlled_of_stopped hmode).1 h
      obtain ⟨hsnap, -, hwork, heng, hscan⟩ := s.install_units s.store.staging
      rw [hmode, if_neg (by decide)] at hscan
      rw [State.controlled_of_stopped (by rw [hscan, hmode])]
      exact ⟨by rw [hscan, hround], by rw [hscan, htimer], by rw [hscan, hdue], heng.trans hidle, by simpa using hno,
        hwork, hsnap⟩
    next hstopped =>
      have hs : s.Scans := by
        cases hmode : s.scan.mode <;> simp_all [State.Scans]
      obtain ⟨hno, hround, htimer, -, hkind⟩ := (State.controlled_of_scans hs).1 h
      rw [State.controlled_of_scans (by simpa [State.Scans] using hs)]
      refine ⟨by simpa using hno, ?_, ?_, ?_, by simpa using hkind⟩
      · simpa [State.RoundFits, State.live] using hround
      · simpa [State.TimerFits] using htimer
      · simp [State.WorkFits, State.enterBusy]

@[simp] theorem State.sendToCal_cal (s : State) (targets : List Channel) (c : Channel) (hc : c ∈ targets) :
    (s.sendToCal targets).keys[c].state = .cal := by
  simp [State.sendToCal, hc, recalKey, forced_to_cal, KeyRecord.atCal]

/-- A return from DOZE with a round in flight leaves it to complete; without one the first ACTIVE round starts (2,
R32). -/
theorem State.leaveDoze_controlled {s : State} (hmode : s.scan.mode = .active) (hno : s.trimRun = none)
    (hround : s.RoundFits) (hwork : s.WorkFits) (hkind : ∀ r, s.scan.round = some r → r.kind = .doze) :
    s.leaveDoze.Controlled := by
  unfold State.leaveDoze
  split
  next hr =>
    have hfree : s.stopTimer.EngineFree :=
      ⟨.inl hmode, by simpa [State.RoundFits, hr] using hround, hno, hwork⟩
    exact hfree.startRound_controlled
  next r hr =>
    rw [State.controlled_of_scans (by exact .inl hmode)]
    refine ⟨hno, hround, ?_, hwork, fun hd => ?_⟩
    · simp [State.TimerFits, State.stopTimer, hr, hmode, hkind r hr]
    · simp [State.stopTimer, hmode] at hd

theorem State.Controlled.recalKeys {s : State} (h : s.Controlled) (hw : s.command.inProgress = none)
    {targets : List Channel} (ht : targets ≠ []) : (s.recalKeys targets).Controlled := by
  have hsnap := h.snapshot_of_idle hw
  unfold State.recalKeys
  split
  next hmode =>
    obtain ⟨hround, htimer, hdue, hidle, hno, -, -⟩ := (State.controlled_of_stopped hmode).1 h
    rw [State.controlled_of_stopped (by simpa using hmode)]
    exact ⟨by simpa using hround, by simpa using htimer, by simpa using hdue, by simpa using hidle, by simpa using hno,
      by simp [hw, CommandUnit.reporting], by simpa using hsnap⟩
  next hmode =>
    obtain ⟨-, -, -, -, ⟨a, b, hbusy⟩, -⟩ := (State.controlled_of_trim hmode).1 h
    rw [hw] at hbusy
    cases hbusy
  next hmode =>
    have hs : s.Scans := .inl hmode
    obtain ⟨hno, hround, htimer, -, hkind⟩ := (State.controlled_of_scans hs).1 h
    rw [State.controlled_of_scans (by simpa [State.Scans] using hs)]
    refine ⟨by simpa using hno, ?_, ?_, ?_, by simpa using hkind⟩
    · simpa [State.RoundFits, State.live] using hround
    · simpa [State.TimerFits] using htimer
    · simpa [State.WorkFits, State.enterBusy, hsnap, hmode, ht] using s.sendToCal_cal targets
  next hmode =>
    have hs : s.Scans := .inr hmode
    obtain ⟨hno, hround, -, -, hkind⟩ := (State.controlled_of_scans hs).1 h
    refine State.leaveDoze_controlled ?_ (by simpa using hno) ?_ ?_ ?_
    · simp [State.clearInactivity]
    · simpa [State.RoundFits, State.live, State.clearInactivity] using hround
    · simpa [State.WorkFits, State.enterBusy, State.clearInactivity, hsnap, ht] using s.sendToCal_cal targets
    · simpa [State.clearInactivity] using hkind hmode

theorem State.Controlled.takeRecal {s : State} (h : s.Controlled) (hw : s.command.inProgress = none) :
    s.takeRecal.Controlled := by
  unfold State.takeRecal
  split
  · exact h.congr (by simp)
  · exact h.congr (by simp)
  next targets hne _ => exact h.recalKeys hw (fun e => hne e)

theorem State.Controlled.takeTrim {s : State} (h : s.Controlled) : s.takeTrim.Controlled := by
  unfold State.takeTrim
  split
  · exact h.congr (by simp)
  next hmode =>
    split
    · exact h.congr (by simp)
    next hlist =>
      obtain ⟨hround, htimer, hdue, -, -, -, hsnap⟩ := (State.controlled_of_stopped (by simpa using hmode)).1 h
      exact State.requestTrim_controlled (by simp) (by simpa using hround) (by simpa using htimer)
        (by simpa using hdue) (by simpa using hsnap) (by simp [State.enterBusy]) rfl
        (List.length_pos_of_ne_nil hlist) le_rfl (by simp [trimRunFor])

theorem State.Controlled.takeDoze {s : State} (h : s.Controlled) (hw : s.command.inProgress = none) :
    s.takeDoze.Controlled := by
  unfold State.takeDoze
  split
  · exact h.congr (by simp)
  next hok =>
    have hmode : s.scan.mode = .active := by
      by_contra hm
      exact hok (.inl hm)
    have hfree : (((((s.abandonRound.setDozeTimer).releaseForDoze).changeMode .doze .command 0xFF)).endCommand
        CommandName.doze.code .ok 0).EngineFree := by
      refine ⟨by simp [State.Scans], by simp [State.abandonRound, State.abandonMeasurement],
        by simpa using h.noTrim_of_scans (.inl hmode), (State.workFits_of_idle ?_).2 ?_⟩
      · simp [hw, CommandUnit.reporting]
      · simpa using h.snapshot_of_idle hw
    exact hfree.controlled (by simp [State.setDozeTimer, State.abandonRound]) (by simp [State.setDozeTimer])
      (by simp [State.setDozeTimer])

theorem State.Controlled.takeWake {s : State} (h : s.Controlled) (hw : s.command.inProgress = none) :
    s.takeWake.Controlled := by
  unfold State.takeWake
  split
  · exact h.congr (by simp)
  next hmode =>
    have hmode : s.scan.mode = .doze := by simpa using hmode
    obtain ⟨hno, hround, -, -, hkind⟩ := (State.controlled_of_scans (.inr hmode)).1 h
    refine State.leaveDoze_controlled ?_ (by simpa using hno) ?_ ((State.workFits_of_idle ?_).2 ?_) ?_
    · simp [State.clearInactivity]
    · simpa [State.RoundFits, State.live, State.clearInactivity] using hround
    · simp [hw, CommandUnit.reporting]
    · simpa using h.snapshot_of_idle hw
    · simpa [State.clearInactivity] using hkind hmode

/-- A command in progress that is no TRIM belongs to a scanning part. -/
theorem State.Controlled.scans_of_work {s : State} (h : s.Controlled) {w : Work} {a b : Byte}
    (hw : s.command.inProgress = some ⟨w, a, b⟩) (hn : w ≠ .trim) : s.Scans := by
  cases hmode : s.scan.mode with
  | stopped =>
    obtain ⟨-, -, -, -, -, hidle, -⟩ := (State.controlled_of_stopped hmode).1 h
    rw [hw] at hidle
    cases hidle
  | trim =>
    obtain ⟨-, -, -, -, ⟨a', b', hbusy⟩, -⟩ := (State.controlled_of_trim hmode).1 h
    rw [hw] at hbusy
    cases hbusy
    exact absurd rfl hn
  | _ => simp [State.Scans, hmode]

/-- TRIM is in progress in TRIM only (7, R122; 9, R151). -/
theorem State.Controlled.trim_of_work {s : State} (h : s.Controlled) {a b : Byte}
    (hw : s.command.inProgress = some ⟨.trim, a, b⟩) : s.scan.mode = .trim := by
  cases hmode : s.scan.mode with
  | stopped =>
    obtain ⟨-, -, -, -, -, hidle, -⟩ := (State.controlled_of_stopped hmode).1 h
    rw [hw] at hidle
    cases hidle
  | trim => rfl
  | _ =>
    obtain ⟨-, -, -, hwork, -⟩ := (State.controlled_of_scans (by simp [State.Scans, hmode])).1 h
    simp [State.WorkFits, hw] at hwork

/-- The end of the command in progress leaves a scanning part coherent once no snapshot is pending. -/
theorem State.Controlled.leaveBusy {s t : State} (h : s.Controlled) (hs : s.Scans)
    (ht : t.workings = { s.workings with snapshot := none, work := none }) : t.Controlled := by
  obtain ⟨hno, hround, htimer, -, hkind⟩ := (State.controlled_of_scans hs).1 h
  simp only [State.workings, Workings.mk.injEq] at ht
  obtain ⟨hlive, hsnap, heng, hmode, hrd, htm, hdue, -, -, hwork, htrim⟩ := ht
  rw [State.controlled_of_scans (by simpa only [State.Scans, hmode] using hs)]
  refine ⟨htrim.trans hno, ?_, ?_, (State.workFits_of_idle hwork).2 hsnap, ?_⟩
  · simpa only [State.RoundFits, State.live, hlive, heng, hrd] using hround
  · simpa only [State.TimerFits, hmode, hrd, htm, hdue] using htimer
  · simpa only [hmode, hrd] using hkind

theorem State.Controlled.takeAbort {s : State} (h : s.Controlled) : s.takeAbort.Controlled := by
  unfold State.takeAbort
  split
  · exact h.congr (by simp)
  next hw =>
    refine h.leaveBusy (h.scans_of_work hw (by simp)) ?_
    rw [State.endCommand_workings]
    rfl
  next hw =>
    have hs := h.scans_of_work hw (by simp)
    obtain ⟨-, -, -, hwork, -⟩ := (State.controlled_of_scans hs).1 h
    simp only [State.WorkFits, hw] at hwork
    refine h.leaveBusy hs ?_
    rw [State.endCommand_workings, ← hwork.1]
    rfl
  next hw =>
    have hmode := h.trim_of_work hw
    obtain ⟨hround, htimer, hdue, hsnap, -⟩ := (State.controlled_of_trim hmode).1 h
    rw [State.controlled_of_stopped (by simp [State.cancelTrim])]
    refine ⟨?_, ?_, ?_, ?_, ?_, ?_, ?_⟩
    · simpa [State.cancelTrim] using hround
    · simpa [State.cancelTrim] using htimer
    · simpa [State.cancelTrim] using hdue
    · simp [State.cancelTrim, State.abandonMeasurement]
    · simp [State.cancelTrim]
    · simp [State.leaveBusy, CommandUnit.reporting]
    · simpa using hsnap

theorem State.Controlled.takeCommand {s : State} (h : s.Controlled) {n : CommandName}
    (taken : s.command.inProgress = none ∨ n.takenWhenBusy = true) : (s.takeCommand n).Controlled := by
  have idle (hn : n.takenWhenBusy = false) : s.command.inProgress = none := taken.resolve_right (by simp [hn])
  cases n with
  | start => exact h.takeStart
  | stop => exact h.takeStop (idle rfl)
  | commit => exact h.takeCommit
  | recal => exact h.takeRecal (idle rfl)
  | trim => exact h.takeTrim
  | doze => exact h.takeDoze (idle rfl)
  | wake => exact h.takeWake (idle rfl)
  | flush => exact h.congr s.takeFlush_workings
  | abort => exact h.takeAbort
  | reset => exact h.congr s.takeReset_workings

/-! ## Resets -/

theorem State.warmReset_controlled (s : State) : s.warmReset.Controlled :=
  ⟨rfl, rfl, rfl, rfl, rfl, rfl, rfl⟩

theorem State.reset_controlled : State.reset.Controlled :=
  ⟨rfl, rfl, rfl, rfl, rfl, rfl, rfl⟩

theorem State.Controlled.workingsStep {s t : State} {i : Instr} (h : s.Controlled) (hst : WorkingsStep i s t) :
    t.Controlled := by
  cases hst with
  | unchanged ht => exact h.congr ht
  | command u n hu _ taken ht => exact ((h.congr hu).takeCommand taken).congr ht
  | conversion u n hu _ ht => exact ((h.congr hu).endConversion n).congr ht
  | roundTimer u hu _ ht => exact (h.congr hu).expireRoundTimer.congr ht
  | warmReset u _ _ ht => exact u.warmReset_controlled.congr ht
  | powerOn _ ht => exact State.reset_controlled.congr ht

/-- Settles O55: every way an event changes the workings keeps them coherent with the mode. -/
theorem controlStaysCoherent : Obligations.ControlStaysCoherent := by
  intro s t hs hstep
  obtain rfl | ⟨i, hst⟩ := step_workings hstep
  · exact hs
  · exact hs.workingsStep hst

end Sys2Proof.Machine
end

section
/-! SUPPORT. Hop frequencies (1, R10) and the outcome of a burst (1, R3, R4). -/

namespace Sys2Proof.Machine

/-! ## Hop frequencies (1, R10) -/

theorem mem_hopOrder (k : Hop) : k ∈ hopOrder := by revert k; decide

theorem hopOrder_sorted : hopOrder.Pairwise (· < ·) := by decide

/-- A search in the order H0 to H4 finds the lowest frequency that passes. -/
theorem hopOrder_find?_lowest {p : Hop → Bool} {k : Hop} (h : hopOrder.find? p = some k) :
    p k = true ∧ ∀ j, p j = true → k ≤ j := by
  obtain ⟨hk, below, above, horder, hbelow⟩ := List.find?_eq_some_iff_append.1 h
  have hsorted := hopOrder_sorted
  rw [horder, List.pairwise_append, List.pairwise_cons] at hsorted
  obtain ⟨-, ⟨habove, -⟩, -⟩ := hsorted
  refine ⟨hk, fun j hj => ?_⟩
  have hmem := mem_hopOrder j
  rw [horder, List.mem_append, List.mem_cons] at hmem
  obtain hlow | rfl | hhigh := hmem
  · exact absurd hj (by simpa using hbelow j hlow)
  · exact le_rfl
  · exact (habove j hhigh).le

theorem hopOrder_find?_exists {p : Hop → Bool} (h : ∃ k, p k = true) : ∃ k, hopOrder.find? p = some k := by
  obtain ⟨k, hk⟩ := h
  exact Option.isSome_iff_exists.1 (List.find?_isSome.2 ⟨k, mem_hopOrder k, hk⟩)

/-- A set that is not empty names a frequency. -/
theorem exists_inHopSet {set : BitVec 5} (h : set ≠ 0) : ∃ k, inHopSet set k = true := by
  by_contra hn
  simp only [not_exists, Bool.not_eq_true] at hn
  exact h (BitVec.eq_of_getLsbD_eq fun i hi => by simpa [inHopSet] using hn ⟨i, hi⟩)

theorem lowestHop_spec {set : BitVec 5} (h : ∃ k, inHopSet set k = true) :
    inHopSet set (lowestHop set) = true ∧ ∀ k, inHopSet set k = true → lowestHop set ≤ k := by
  obtain ⟨k, hk⟩ := hopOrder_find?_exists h
  rw [lowestHop, hk]
  exact hopOrder_find?_lowest hk

/-- Where the set has a frequency above `h`, the next one is the lowest of them. -/
theorem nextHop_above {set : BitVec 5} {h : Hop} (ha : ∃ k, h < k ∧ inHopSet set k = true) :
    h < nextHop set h ∧ inHopSet set (nextHop set h) = true ∧
      ∀ k, h < k → inHopSet set k = true → nextHop set h ≤ k := by
  obtain ⟨k, hk⟩ := hopOrder_find?_exists (p := fun k => decide (h < k) && inHopSet set k) (by simpa using ha)
  obtain ⟨hpass, hlow⟩ := hopOrder_find?_lowest hk
  rw [nextHop, hk]
  simp only [Bool.and_eq_true, decide_eq_true_eq] at hpass hlow
  exact ⟨hpass.1, hpass.2, fun j hj hset => hlow j ⟨hj, hset⟩⟩

/-- Where the set has none above `h`, the next frequency is the lowest of the set. -/
theorem nextHop_wraps {set : BitVec 5} {h : Hop} (hn : ∀ k, h < k → inHopSet set k = false) :
    nextHop set h = lowestHop set := by
  have : hopOrder.find? (fun k => decide (h < k) && inHopSet set k) = none := by
    simpa [List.find?_eq_none] using fun k _ => hn k
  rw [nextHop, this]
  rfl

/-- The next frequency of a set that names one is in the set. -/
theorem nextHop_mem {set : BitVec 5} (hne : ∃ k, inHopSet set k = true) (h : Hop) :
    inHopSet set (nextHop set h) = true := by
  by_cases ha : ∃ k, h < k ∧ inHopSet set k = true
  · exact (nextHop_above ha).2.1
  · rw [nextHop_wraps (by simpa using ha)]
    exact (lowestHop_spec hne).1

/-- Settles O39, by the search in the order H0 to H4. -/
theorem nextFrequency : Obligations.NextFrequency := by
  intro set h hset
  have hne := exists_inHopSet hset
  obtain ⟨hlow, hleast⟩ := lowestHop_spec hne
  refine ⟨nextHop_mem hne h, hlow, hleast, fun ha => ?_, nextHop_wraps⟩
  obtain ⟨habove, -, hnext⟩ := nextHop_above ha
  exact ⟨habove, hnext⟩

/-! ## Bursts (1, R3, R4) -/

theorem le_burstMean {counts : List Nat} (hne : counts ≠ []) {low : Nat} (h : ∀ n ∈ counts, low ≤ n) :
    low ≤ burstMean counts := by
  have := List.card_nsmul_le_sum counts low h
  rw [burstMean, Nat.le_div_iff_mul_le (List.length_pos_of_ne_nil hne), Nat.mul_comm]
  simpa using this

theorem burstMean_le {counts : List Nat} {high : Nat} (h : ∀ n ∈ counts, n ≤ high) : burstMean counts ≤ high := by
  have := List.sum_le_card_nsmul counts high h
  exact Nat.div_le_of_le_mul (by simpa using this)

/-- The spread of a burst exceeds the noise limit exactly when two of its counts are further apart. -/
theorem noise_lt_burstSpread_iff {counts : List Nat} (hne : counts ≠ []) (noise : Nat) :
    noise < burstSpread counts ↔ ∃ a ∈ counts, ∃ b ∈ counts, noise + b < a := by
  rw [← not_le, burstSpread_le hne]
  push Not
  rfl

/-- The outcome of a burst in terms of its counts: the first test that holds decides. -/
theorem burstVerdict_eq (m : Measurement) {counts : List Nat} (hne : counts ≠ []) :
    burstVerdict m counts =
      if m.ceiling ∈ counts then .openCircuit
      else if burstMean counts < m.floor then .shorted
      else if ∃ a ∈ counts, ∃ b ∈ counts, m.noiseLimit + b < a then .noisy
      else .valid := by
  simp only [burstVerdict, noise_lt_burstSpread_iff hne, List.any_beq', List.contains_iff_mem]

/-- The four outcomes of a burst, each with the tests that come before its own (1, R4). -/
theorem burstVerdict_iff (m : Measurement) {counts : List Nat} (hne : counts ≠ []) :
    (burstVerdict m counts = .openCircuit ↔ m.ceiling ∈ counts) ∧
    (burstVerdict m counts = .shorted ↔ m.ceiling ∉ counts ∧ burstMean counts < m.floor) ∧
    (burstVerdict m counts = .noisy ↔ m.ceiling ∉ counts ∧ m.floor ≤ burstMean counts ∧
      ∃ a ∈ counts, ∃ b ∈ counts, m.noiseLimit + b < a) ∧
    (burstVerdict m counts = .valid ↔ m.ceiling ∉ counts ∧ m.floor ≤ burstMean counts ∧
      ¬ ∃ a ∈ counts, ∃ b ∈ counts, m.noiseLimit + b < a) := by
  simp only [burstVerdict_eq m hne, ← not_lt (a := burstMean counts)]
  by_cases hopen : m.ceiling ∈ counts
  · simp [hopen]
  by_cases hshort : burstMean counts < m.floor
  · simp [hopen, hshort]
  by_cases hnoisy : ∃ a ∈ counts, ∃ b ∈ counts, m.noiseLimit + b < a
  · simp only [hopen, hshort, hnoisy, if_true, if_false]
    decide
  · simp only [hopen, hshort, hnoisy, if_false]
    decide

/-- Settles O38: the four outcomes by the order of the tests, and the bounds of the mean. -/
theorem burstOutcome : Obligations.BurstOutcome := by
  intro m counts hne hceiling
  obtain ⟨hopen, hshort, hnoisy, hvalid⟩ := burstVerdict_iff m hne
  refine ⟨hopen, hshort, hnoisy, hvalid.trans ?_, burstMean_le hceiling, fun low h => le_burstMean hne h,
    fun high h => burstMean_le h⟩
  push Not
  rfl

end Sys2Proof.Machine
end

section
/-! SUPPORT. The measurement engine: what a conversion does (1, R1 to R12), and why a measurement works with the live
values and every hop index stays in the live hop set (1, R8, R11). -/

namespace Sys2Proof.Machine

/-! ## The end of a measurement -/

/-- A conversion either goes on with its burst or ends it (1, R3). -/
theorem State.endConversion_eq {s : State} {m : Measurement} (hm : s.engine.current = some m) (cycles : Nat) :
    s.endConversion cycles =
      if (m.countsWith cycles).length < m.burstLength then
        s.withEngine { s.engine with current := some { m with counts := m.countsWith cycles } }
      else s.endBurst m (m.countsWith cycles) := by
  simp only [State.endConversion, hm]
  rfl

/-- A conversion inside a burst adds its count (1, R3). -/
theorem State.endConversion_counts {s : State} {m : Measurement} {cycles : Nat} (hm : s.engine.current = some m)
    (hl : (m.countsWith cycles).length < m.burstLength) :
    s.endConversion cycles =
      s.withEngine { s.engine with current := some { m with counts := m.countsWith cycles } } := by
  rw [State.endConversion_eq hm, if_pos hl]

/-- A NOISY burst with retries left is repeated at the next frequency (1, R12). -/
theorem State.endConversion_retry {s : State} {m : Measurement} {cycles : Nat} (hm : s.engine.current = some m)
    (hl : m.burstLength ≤ (m.countsWith cycles).length) (hv : burstVerdict m (m.countsWith cycles) = .noisy)
    (hr : m.retries ≠ 0) : s.endConversion cycles = s.retry m := by
  rw [State.endConversion_eq hm, if_neg (not_lt.2 hl), State.endBurst, if_pos ⟨hv, hr⟩]

/-- The last conversion of a measurement hands its result to the requester (1, R5). -/
theorem State.endConversion_ends {s : State} {m : Measurement} {cycles : Nat} (hm : s.engine.current = some m)
    (h : m.EndsWith cycles) : s.endConversion cycles = s.deliver m.requester (m.resultWith cycles) := by
  obtain ⟨hl, hv⟩ := h
  have hlen : (m.countsWith cycles).length = m.burstLength := by simpa [Measurement.countsWith] using hl
  rw [State.endConversion_eq hm, if_neg (not_lt.2 hlen.ge), State.endBurst, if_neg (by tauto),
    Measurement.resultWith, ← hlen]
  rfl

/-- A result that leaves channels to measure: the next one is requested (2, R25). -/
theorem State.receiveScan_next {s : State} {r : Round} {c : Channel} (hr : s.scan.round = some r)
    (hc : r.measured[r.results.length + 1]? = some c) (x : MeasResult) :
    s.receiveScan x =
      (s.withScan { s.scan with round := some { r with results := r.results ++ [x] } }).requestScan c := by
  obtain ⟨hlt, rfl⟩ := List.getElem?_eq_some_iff.1 hc
  simp only [State.receiveScan, hr, List.length_append, List.length_singleton]
  rw [List.drop_eq_getElem_cons hlt]

/-! ## CONVERSION -/

theorem exec_conversion {s : State} (h : s.Runs) (cycles : Nat) :
    exec (.conversion cycles) s = .next (State.driveFrom s (s.endConversion cycles)) :=
  congrArg Host.Outcome.next (State.inside_of_runs h fun s => s.endConversion cycles)

/-- A conversion that moves nothing the lines follow leaves the lines as they are. -/
theorem exec_conversion_quiet {s : State} (h : s.Runs) {cycles : Nat} {t : State} (ht : s.endConversion cycles = t)
    (hl : t.lines = s.lines) (hk : t.keys = s.keys) (hg : t.groups = s.groups) (hmode : t.scan.mode = s.scan.mode) :
    exec (.conversion cycles) s = .next t := by
  rw [exec_conversion h, ht, State.driveFrom_quiet hl hk hg (by rw [hmode])]

/-- The joined sense lines are those of the electrode set of the measurement in progress (1, R1). -/
theorem State.joinedLines_iff (s : State) (line : Fin 20) :
    s.joinedLines.getLsbD line.val = true ↔
      ∃ m, s.engine.current = some m ∧ m.electrodes.getLsbD line.val = true := by
  unfold State.joinedLines
  cases s.engine.current <;> simp

theorem measurementOf_burstLength (cfg : Configuration) (q : Requester) (c : Channel) (trim : BitVec 6) :
    (cfg.measurementOf q c trim).burstLength = burstLengthOf cfg.channels[c].burst := rfl

/-- Settles O37: the four things a conversion can do, each by the equation that says what the engine does. -/
theorem conversionsAndRetries : Obligations.ConversionsAndRetries := by
  refine ⟨fun cfg q c trim => ?_, fun s cycles hruns => ⟨s.joinedLines_iff, fun hidle => ?_, fun m hm => ?_⟩⟩
  · rw [measurementOf_burstLength]
    refine ⟨?_, ?_, ?_, ?_⟩ <;> intro h <;> rw [h] <;> rfl
  · exact exec_conversion_quiet hruns (by simp [State.endConversion, hidle]) rfl rfl rfl rfl
  refine ⟨fun hl => ?_, fun hl hv hr => ?_, fun r next hq hround hl hv hnext => ?_, fun hq hends => ?_⟩
  · exact ⟨_, exec_conversion_quiet hruns (State.endConversion_counts hm hl) rfl rfl rfl rfl, rfl, by simp [Keeps]⟩
  · refine ⟨_, exec_conversion_quiet hruns (State.endConversion_retry hm hl hv hr) (by simp) (by simp) (by simp)
      (by simp), rfl, fun c => ?_, by simp [Keeps]⟩
    by_cases hc : c = m.channel <;> simp [State.retry, hc]
  · have hends : m.EndsWith cycles := ⟨by simpa using hl, hv⟩
    have hscan : s.abandonMeasurement.scan.round = some r := hround
    have ht : s.endConversion cycles =
        (s.abandonMeasurement.withScan { s.scan with
          round := some { r with results := r.results ++ [m.resultWith cycles] } }).requestScan next := by
      rw [State.endConversion_ends hm hends, hq]
      exact State.receiveScan_next hscan hnext _
    refine ⟨_, exec_conversion_quiet hruns ht (by simp) (by simp) (by simp) (by simp), ?_, ?_, ?_⟩
    · simp only [State.requestScan_frame, State.withScan_scan, Measurement.resultWith]
      rfl
    · rfl
    · simp [Keeps]
  · have ht : s.endConversion cycles = s.abandonMeasurement.receiveTrim (m.resultWith cycles) := by
      rw [State.endConversion_ends hm hends, hq]
      rfl
    refine ⟨_, exec_conversion hruns cycles, ?_, ?_⟩
    · exact State.driveFrom_follows (by simp)
    · rw [ht]
      simp [Keeps, State.abandonMeasurement]

/-! ## Measurements on the live values (1, R8) and hop indices (R11) -/

/-- The measurement works with the values of the configuration: `State.Measuring` says it of the live copy. -/
def Measurement.FitsLive (cfg : Configuration) (m : Measurement) : Prop :=
  cfg.channels[m.channel].electrodes = m.electrodes ∧
  (m.requester = .scan → cfg.channels[m.channel].trim = m.trim) ∧
  burstLengthOf cfg.channels[m.channel].burst = m.burstLength ∧
  cfg.channels[m.channel].ceiling.toNat = m.ceiling ∧ cfg.channels[m.channel].floor.toNat = m.floor ∧
  cfg.globals.noiseLimit.toNat = m.noiseLimit ∧ cfg.globals.hopSet = m.hopSet ∧
  m.retries ≤ cfg.globals.hopRetries.toNat ∧ m.counts.length < m.burstLength ∧ ∀ n ∈ m.counts, n ≤ m.ceiling

theorem burstLengthOf_pos (code : Byte) : 0 < burstLengthOf code := by
  simp [burstLengthOf]

/-- A request reads the live values (1, R8). -/
theorem measurementOf_fitsLive {cfg : Configuration} {q : Requester} {c : Channel} {trim : BitVec 6}
    (h : q = .scan → cfg.channels[c].trim = trim) : (cfg.measurementOf q c trim).FitsLive cfg :=
  ⟨rfl, h, rfl, rfl, rfl, rfl, rfl, le_rfl, burstLengthOf_pos _, by simp [Configuration.measurementOf]⟩

/-- A burst in progress goes on working with the live values. -/
theorem Measurement.FitsLive.counts {cfg : Configuration} {m : Measurement} (h : m.FitsLive cfg) {cycles : Nat}
    (hl : (m.countsWith cycles).length < m.burstLength) : { m with counts := m.countsWith cycles }.FitsLive cfg := by
  obtain ⟨helec, htrim, hburst, hceil, hfloor, hnoise, hset, hretries, -, hcounts⟩ := h
  refine ⟨helec, htrim, hburst, hceil, hfloor, hnoise, hset, hretries, hl, fun n hn => ?_⟩
  obtain hn | hn := List.mem_append.1 hn
  · exact hcounts n hn
  · rw [List.mem_singleton.1 hn]
    exact min_le_right _ _

/-- A retry works with the live values. -/
theorem Measurement.FitsLive.retry {cfg : Configuration} {m : Measurement} (h : m.FitsLive cfg) :
    { m with retries := m.retries - 1, counts := [] }.FitsLive cfg := by
  obtain ⟨helec, htrim, hburst, hceil, hfloor, hnoise, hset, hretries, hlen, -⟩ := h
  exact ⟨helec, htrim, hburst, hceil, hfloor, hnoise, hset, (Nat.sub_le _ _).trans hretries,
    Nat.zero_lt_of_lt hlen, by simp⟩

/-- The hop set of a valid configuration names a frequency (8, R137, V11). -/
theorem exists_inHopSet_of_valid {cfg : Configuration} (h : cfg.valid = true) :
    ∃ k, inHopSet cfg.globals.hopSet k = true := by
  have h11 : checkV11 cfg = none := Configuration.check_of_valid h (218, checkV11) (by simp [validationChecks])
  simp only [checkV11, firstFailing, List.find?_eq_none, List.mem_range] at h11
  have := h11 7 (by decide)
  exact exists_inHopSet (by simpa [globalItems] using this)

/-- The measurement in progress works with the live values, and every hop index is in the live hop set. -/
structure State.EngineFits (s : State) : Prop where
  measuring : s.Measuring
  hops : s.HopsFit

theorem State.HopsFit.congr {s t : State} (h : s.HopsFit) (hhop : t.engine.hop = s.engine.hop)
    (hset : t.live.globals.hopSet = s.live.globals.hopSet) : t.HopsFit := by
  simpa only [State.HopsFit, hhop, hset] using h

theorem State.HopsFit.exists_inHopSet {s : State} (h : s.HopsFit) : ∃ k, inHopSet s.live.globals.hopSet k = true :=
  ⟨_, h 0⟩

theorem State.EngineFits.congr {s t : State} (h : s.EngineFits) (hlive : t.live = s.live)
    (heng : t.engine = s.engine) : t.EngineFits where
  measuring := by simpa only [State.Measuring, hlive, heng] using h.measuring
  hops := h.hops.congr (by rw [heng]) (by rw [hlive])

theorem State.EngineFits.of_workings {s t : State} (h : s.EngineFits) (ht : t.workings = s.workings) :
    t.EngineFits := by
  obtain ⟨hlive, -, heng, -⟩ := State.workings_eq_iff.1 ht
  exact h.congr hlive heng

theorem ConfigStore.Valid.of_workings {s t : State} (h : s.store.Valid) (ht : t.workings = s.workings) :
    t.store.Valid := by
  obtain ⟨hlive, hsnap, -⟩ := State.workings_eq_iff.1 ht
  simp only [State.live] at hlive
  simpa only [ConfigStore.Valid, hlive, hsnap] using h

/-- An IDLE engine measures nothing. -/
theorem State.HopsFit.engineFits {s : State} (h : s.HopsFit) (hidle : s.engine.current = none) : s.EngineFits where
  measuring := by simp [State.Measuring, hidle]
  hops := h

/-- A request keeps the engine fitting: it reads the live values. -/
theorem State.HopsFit.request {s : State} (h : s.HopsFit) {q : Requester} {c : Channel} {trim : BitVec 6}
    (ht : q = .scan → s.live.channels[c].trim = trim) : (s.request q c trim).EngineFits where
  measuring := by
    intro m hm
    obtain rfl := Option.some.inj hm
    exact measurementOf_fitsLive ht
  hops := h

theorem State.HopsFit.requestScan {s : State} (h : s.HopsFit) (c : Channel) : (s.requestScan c).EngineFits :=
  h.request fun _ => rfl

theorem State.HopsFit.requestTrim {s : State} (h : s.HopsFit) (hidle : s.engine.current = none) (t : TrimRun) :
    (s.requestTrim t).EngineFits := by
  unfold State.requestTrim
  split
  · exact State.HopsFit.request (s := s.withTrimRun (some t)) h (fun hq => by cases hq)
  · exact State.HopsFit.engineFits (s := s.withTrimRun (some t)) h hidle

/-! ## The engine through the shared operations -/

theorem hopIntoSet_mem {set : BitVec 5} (h : ∃ k, inHopSet set k = true) (k : Hop) :
    inHopSet set (hopIntoSet set k) = true := by
  unfold hopIntoSet
  split
  next hk => exact hk
  · exact (lowestHop_spec h).1

/-- An install brings every hop index into the new set (1, R13). -/
theorem State.install_hopsFit (s : State) {new : Configuration} (h : new.valid = true) : (s.install new).HopsFit := by
  intro c
  have hlive : (s.install new).live = new := (s.install_units new).2.1
  have hhop : (s.install new).engine.hop[c] = hopIntoSet new.globals.hopSet s.engine.hop[c] := by
    simp [State.install, State.installCopy]
  rw [hlive, hhop]
  exact hopIntoSet_mem (exists_inHopSet_of_valid h) _

theorem State.HopsFit.installPending {s : State} (h : s.HopsFit) (hv : s.store.Valid) : s.installPending.HopsFit := by
  unfold State.installPending
  split
  next new hnew => exact s.install_hopsFit (hv.2 new hnew)
  · exact h

theorem State.installPending_current (s : State) : s.installPending.engine.current = s.engine.current := by
  unfold State.installPending
  split
  next new _ => exact (s.install_units new).2.2.2.1
  · rfl

theorem State.EngineFits.finishRound {s : State} (h : s.EngineFits) (kind : RoundKind) (rs : List MeasResult) :
    (s.finishRound kind rs).EngineFits :=
  h.congr (by simp [State.live]) (by simp)

/-- A round start with an IDLE engine: nothing is measured, or a request has just been taken. -/
theorem State.HopsFit.launchRound {s : State} (h : s.HopsFit) (hidle : s.engine.current = none) :
    s.launchRound.EngineFits := by
  unfold State.launchRound
  dsimp only
  split
  · refine State.EngineFits.finishRound ?_ _ _
    exact State.HopsFit.engineFits h hidle
  · refine State.HopsFit.requestScan ?_ _
    exact h

theorem State.HopsFit.startRound {s : State} (h : s.HopsFit) (hidle : s.engine.current = none)
    (hv : s.store.Valid) : s.startRound.EngineFits :=
  (h.installPending hv).launchRound (s.installPending_current.trans hidle)

theorem State.HopsFit.completeRound {s : State} (h : s.HopsFit) (hidle : s.engine.current = none)
    (hv : s.store.Valid) (kind : RoundKind) (rs : List MeasResult) : (s.completeRound kind rs).EngineFits := by
  have hfit := (h.engineFits hidle).finishRound kind rs
  unfold State.completeRound
  dsimp only
  split
  · exact hfit.hops.startRound (by simpa using hidle) (by simpa using hv)
  · exact hfit

theorem State.HopsFit.receiveScan {s : State} (h : s.HopsFit) (hidle : s.engine.current = none)
    (hv : s.store.Valid) (x : MeasResult) : (s.receiveScan x).EngineFits := by
  unfold State.receiveScan
  split
  · exact h.engineFits hidle
  dsimp only
  split
  · refine State.HopsFit.requestScan ?_ _
    exact h
  · exact h.completeRound hidle hv _ _

/-- The trim search leaves the hop indices and the hop set (1, R13; 9, R156). -/
theorem State.HopsFit.receiveTrim {s : State} (h : s.HopsFit) (hidle : s.engine.current = none) (x : MeasResult) :
    (s.receiveTrim x).EngineFits := by
  unfold State.receiveTrim
  split
  · exact h.engineFits hidle
  split
  · exact h.requestTrim hidle _
  · refine State.HopsFit.engineFits (h.congr (by simp) ?_) (by simpa using hidle)
    simp [State.completeTrim, State.live, TrimRun.writeInto]

theorem State.EngineFits.endConversion {s : State} (h : s.EngineFits) (hv : s.store.Valid) (cycles : Nat) :
    (s.endConversion cycles).EngineFits := by
  cases hm : s.engine.current with
  | none => simpa [State.endConversion, hm] using h
  | some m =>
    have hfit := h.measuring m hm
    rw [State.endConversion_eq hm]
    split
    next hl =>
      refine ⟨fun m' hm' => ?_, h.hops⟩
      obtain rfl := Option.some.inj hm'
      exact Measurement.FitsLive.counts hfit hl
    unfold State.endBurst
    split
    · refine ⟨fun m' hm' => ?_, fun c => ?_⟩
      · obtain rfl := Option.some.inj hm'
        exact Measurement.FitsLive.retry hfit
      · obtain ⟨-, -, -, -, -, -, hset, -⟩ := hfit
        have hnext := nextHop_mem h.hops.exists_inHopSet s.engine.hop[m.channel]
        by_cases hc : c = m.channel
        · simpa [State.retry, State.live, ← hset, hc] using hnext
        · simpa [State.retry, State.live, hc] using h.hops c
    cases m.requester with
    | scan => exact State.HopsFit.receiveScan (s := s.abandonMeasurement) h.hops rfl hv _
    | trim => exact State.HopsFit.receiveTrim (s := s.abandonMeasurement) h.hops rfl _

theorem State.EngineFits.expireRoundTimer {s : State} (h : s.EngineFits) (hv : s.store.Valid) (hc : s.Controlled) :
    s.expireRoundTimer.EngineFits := by
  unfold State.expireRoundTimer
  split
  · exact h
  next n ht =>
    have hs := hc.scans_of_timer (by simp [ht])
    split
    next hr =>
      have hidle := (((State.controlled_of_scans hs).1 hc).engineFree hs hr).idle
      exact h.hops.startRound hidle hv
    · exact h.congr rfl rfl

/-! ## The engine through the commands -/

/-- In STOPPED the engine is IDLE. -/
theorem State.Controlled.idle_of_stopped {s : State} (h : s.Controlled) (hm : s.scan.mode = .stopped) :
    s.engine.current = none := by
  obtain ⟨-, -, -, hidle, -⟩ := (State.controlled_of_stopped hm).1 h
  exact hidle

theorem State.EngineFits.takeStart {s : State} (h : s.EngineFits) (hv : s.store.Valid) (hc : s.Controlled) :
    s.takeStart.EngineFits := by
  unfold State.takeStart
  split
  · exact h.of_workings (by simp)
  next hmode =>
    split
    · exact h.of_workings (by simp)
    · have hidle := hc.idle_of_stopped (by simpa using hmode)
      exact State.HopsFit.startRound (h.hops.congr (by simp) (by simp [State.live])) (by simpa using hidle)
        (by simpa using hv)

theorem State.EngineFits.takeStop {s : State} (h : s.EngineFits) : s.takeStop.EngineFits := by
  unfold State.takeStop
  split
  · exact State.HopsFit.engineFits
      (h.hops.congr (by simp [State.abandonRound, State.abandonMeasurement]) (by simp [State.live]))
      (by simp [State.abandonRound, State.abandonMeasurement])
  · exact h.of_workings (by simp)

theorem State.EngineFits.takeCommit {s : State} (h : s.EngineFits) (hc : s.Controlled) : s.takeCommit.EngineFits := by
  unfold State.takeCommit
  split
  · exact h.of_workings (by simp)
  split
  · exact h.of_workings (by simp)
  next hnone =>
    split
    next hmode =>
      have hvalid : s.store.staging.valid = true := by simp [Configuration.valid, hnone]
      obtain ⟨-, -, -, heng, -⟩ := s.install_units s.store.staging
      exact (s.install_hopsFit hvalid).engineFits (heng.trans (hc.idle_of_stopped hmode))
    · exact h.congr (by simp [State.live]) (by simp)

theorem State.EngineFits.leaveDoze {s : State} (h : s.EngineFits) (hv : s.store.Valid) (hr : s.RoundFits) :
    s.leaveDoze.EngineFits := by
  unfold State.leaveDoze
  split
  next hnone =>
    have hidle : s.engine.current = none := by simpa [State.RoundFits, hnone] using hr
    exact State.HopsFit.startRound (s := s.stopTimer) h.hops hidle hv
  · exact h.congr rfl rfl

/-- In ACTIVE and DOZE the round in flight, if any, has the engine. -/
theorem State.Controlled.roundFits_of_scans {s : State} (h : s.Controlled) (hs : s.Scans) : s.RoundFits := by
  obtain ⟨-, hround, -⟩ := (State.controlled_of_scans hs).1 h
  exact hround

theorem State.EngineFits.recalKeys {s : State} (h : s.EngineFits) (hv : s.store.Valid) (hc : s.Controlled)
    (targets : List Channel) : (s.recalKeys targets).EngineFits := by
  unfold State.recalKeys
  split
  · exact h.congr (by simp [State.live]) (by simp)
  · exact h.congr (by simp [State.live]) (by simp)
  · exact h.congr (by simp [State.live]) (by simp)
  next hmode =>
    refine State.EngineFits.leaveDoze (h.congr (by simp [State.live]) (by simp)) (by simpa using hv) ?_
    simpa [State.RoundFits, State.live, State.clearInactivity] using hc.roundFits_of_scans (.inr hmode)

theorem State.EngineFits.takeRecal {s : State} (h : s.EngineFits) (hv : s.store.Valid) (hc : s.Controlled) :
    s.takeRecal.EngineFits := by
  unfold State.takeRecal
  split
  · exact h.of_workings (by simp)
  · exact h.of_workings (by simp)
  · exact h.recalKeys hv hc _

theorem State.EngineFits.takeTrim {s : State} (h : s.EngineFits) (hc : s.Controlled) : s.takeTrim.EngineFits := by
  unfold State.takeTrim
  split
  · exact h.of_workings (by simp)
  next hmode =>
    split
    · exact h.of_workings (by simp)
    · have hidle := hc.idle_of_stopped (by simpa using hmode)
      exact State.HopsFit.requestTrim (h.hops.congr (by simp) (by simp [State.live])) (by simpa using hidle) _

theorem State.EngineFits.takeDoze {s : State} (h : s.EngineFits) : s.takeDoze.EngineFits := by
  unfold State.takeDoze
  split
  · exact h.of_workings (by simp)
  · exact State.HopsFit.engineFits
      (h.hops.congr (by simp [State.abandonRound, State.abandonMeasurement]) (by simp [State.live]))
      (by simp [State.abandonRound, State.abandonMeasurement])

theorem State.EngineFits.takeWake {s : State} (h : s.EngineFits) (hv : s.store.Valid) (hc : s.Controlled) :
    s.takeWake.EngineFits := by
  unfold State.takeWake
  split
  · exact h.of_workings (by simp)
  next hmode =>
    refine State.EngineFits.leaveDoze (h.congr (by simp [State.live]) (by simp)) (by simpa using hv) ?_
    simpa [State.RoundFits, State.live, State.clearInactivity] using
      hc.roundFits_of_scans (.inr (by simpa using hmode))

theorem State.EngineFits.takeAbort {s : State} (h : s.EngineFits) : s.takeAbort.EngineFits := by
  unfold State.takeAbort
  split
  · exact h.of_workings (by simp)
  · exact h.congr (by simp [State.live]) (by simp)
  · exact h.congr (by simp [State.live]) (by simp)
  · exact State.HopsFit.engineFits (h.hops.congr (by simp [State.cancelTrim, State.abandonMeasurement])
      (by simp [State.live])) (by simp [State.cancelTrim, State.abandonMeasurement])

theorem State.EngineFits.takeCommand {s : State} (h : s.EngineFits) (hv : s.store.Valid) (hc : s.Controlled)
    (n : CommandName) : (s.takeCommand n).EngineFits := by
  cases n with
  | start => exact h.takeStart hv hc
  | stop => exact h.takeStop
  | commit => exact h.takeCommit hc
  | recal => exact h.takeRecal hv hc
  | trim => exact h.takeTrim hc
  | doze => exact h.takeDoze
  | wake => exact h.takeWake hv hc
  | flush => exact h.of_workings s.takeFlush_workings
  | abort => exact h.takeAbort
  | reset => exact h.of_workings s.takeReset_workings

/-! ## Resets -/

/-- The warm reset sends every hop index to the lowest enabled frequency (1, R16). -/
theorem State.warmReset_engineFits {s : State} (hv : s.store.Valid) : s.warmReset.EngineFits := by
  refine State.HopsFit.engineFits (fun c => ?_) rfl
  have hhop : s.warmReset.engine.hop[c] = lowestHop s.live.globals.hopSet := by simp [State.warmReset]
  rw [hhop]
  exact (lowestHop_spec (exists_inHopSet_of_valid hv.1)).1

theorem State.reset_engineFits : State.reset.EngineFits :=
  State.HopsFit.engineFits (by unfold State.HopsFit; decide) rfl

theorem State.EngineFits.workingsStep {s t : State} {i : Instr} (h : s.EngineFits) (hv : s.store.Valid)
    (hc : s.Controlled) (hst : WorkingsStep i s t) : t.EngineFits := by
  cases hst with
  | unchanged ht => exact h.of_workings ht
  | command u n hu _ _ ht => exact ((h.of_workings hu).takeCommand (hv.of_workings hu) (hc.congr hu) n).of_workings ht
  | conversion u n hu _ ht => exact ((h.of_workings hu).endConversion (hv.of_workings hu) n).of_workings ht
  | roundTimer u hu _ ht =>
    exact ((h.of_workings hu).expireRoundTimer (hv.of_workings hu) (hc.congr hu)).of_workings ht
  | warmReset u hu _ ht => exact (State.warmReset_engineFits (hv.of_workings hu)).of_workings ht
  | powerOn _ ht => exact State.reset_engineFits.of_workings ht

/-- Settles O56: every way an event changes the workings keeps the engine on the live values. -/
theorem measurementUsesLiveValues : Obligations.MeasurementUsesLiveValues := by
  intro s t hc hv hmeasuring hhops hstep
  obtain rfl | ⟨i, hst⟩ := step_workings hstep
  · exact ⟨hmeasuring, hhops⟩
  · have hfit := State.EngineFits.workingsStep ⟨hmeasuring, hhops⟩ hv hc hst
    exact ⟨hfit.measuring, hfit.hops⟩

end Sys2Proof.Machine
end

section
/-! SUPPORT. The values after power-on and after the reset commands (7, R131 to R133), and the install of a COMMIT in
STOPPED (8, R141 to R147). -/

namespace Sys2Proof.Machine

/-! ## Power-on -/

/-- Settles O3: every block's power-on values, and the bytes the common region shows of them. -/
theorem resetValues : Obligations.ResetValues := by
  have hchannels : ∀ c : Channel, State.reset.live.channels[c] = ChannelConfig.default c := fun c => by
    simp [State.live, State.reset, ConfigStore.powerOn, Configuration.default]
  have hgroups : ∀ g : GroupId, State.reset.live.groups[g] = GroupDef.default := fun g => by
    simp [State.live, State.reset, ConfigStore.powerOn, Configuration.default]
  refine ⟨rfl, fun c => ?_, rfl, rfl, fun c => ?_, fun g => ?_, rfl, rfl, rfl, hchannels, rfl, rfl, fun g => ?_, rfl,
    rfl, fun i => ?_, rfl, rfl, rfl, rfl, rfl, ?_⟩
  · simp [State.reset, Engine.powerOn]
  · simp [State.reset, KeyRecord.powerOn, Accumulator.empty]
  · simp [State.reset, GroupRun.cleared]
  · rw [hgroups]
    exact ⟨rfl, rfl, rfl⟩
  · simp [State.reset, IndicatorLine.powerOn]
  · decide

/-! ## The reset commands (7, R131 to R133) -/

/-- The end of the transaction that carried a RESET of the kind pending. -/
theorem State.endTransaction_of_pending {s : State} (h : s.Runs) {kind : ResetKind}
    (hp : s.command.pendingReset = some kind) (reset : State → State) : s.endTransaction kind reset = reset s :=
  if_pos ⟨h, hp⟩

/-- Without such a RESET pending the end of a transaction changes nothing (log 2). -/
theorem State.endTransaction_of_not_pending {s : State} {kind : ResetKind}
    (hp : s.command.pendingReset ≠ some kind) (reset : State → State) : s.endTransaction kind reset = s :=
  if_neg fun h => hp h.2

/-- The warm reset leaves what a line follows: its source, its levels and its dark flag (11, R176). -/
theorem State.targetLevel_warmLine (s : State) (l : IndicatorLine) : s.targetLevel (warmLine l) = s.targetLevel l := rfl

/-- Each line meets the target derived afresh from the state the other blocks are reset to (11, R176). -/
theorem State.meetAll_lines (s : State) (i : LineId) :
    s.meetAll.lines[i] = s.lines[i].meet (s.meetAll.targetLevel s.lines[i]) := by
  rw [← State.targetLevel_congr (s := s) (t := s.meetAll) rfl rfl Iff.rfl]
  simp [State.meetAll]

theorem State.warmReset_lines (s : State) (i : LineId) :
    s.warmReset.lines[i] = (warmLine s.lines[i]).meet (s.warmReset.targetLevel s.lines[i]) := by
  rw [← State.targetLevel_warmLine]
  unfold State.warmReset
  rw [State.meetAll_lines]
  simp

theorem State.warmReset_keys (s : State) (c : Channel) :
    s.warmReset.keys[c] = warmKey (s.live.listed c) s.keys[c] := by
  simp [State.warmReset]

theorem State.warmReset_groups (s : State) (g : GroupId) : s.warmReset.groups[g] = GroupRun.cleared := by
  simp [State.warmReset]

theorem State.warmReset_hop (s : State) (c : Channel) :
    s.warmReset.engine.hop[c] = lowestHop s.live.globals.hopSet := by
  simp [State.warmReset]

/-- Settles O19: the two resets, block by block. -/
theorem resetCommandsTakeEffect : Obligations.ResetCommandsTakeEffect := by
  refine ⟨fun s hruns => ⟨fun hp => ?_, fun hp => ?_⟩, fun s hruns => ⟨fun hp => ?_, fun hp => ?_⟩⟩
  · exact congrArg Host.Outcome.next (State.endTransaction_of_not_pending hp State.warmReset)
  · refine ⟨s.warmReset, congrArg Host.Outcome.next (State.endTransaction_of_pending hruns hp State.warmReset), rfl,
      rfl, s.warmReset_hop, rfl, s.warmReset_keys, s.warmReset_groups, rfl, rfl, rfl, s.warmReset_lines, rfl, ?_⟩
    simp [Keeps, State.warmReset]
  · exact congrArg Host.Outcome.next (State.endTransaction_of_not_pending hp State.coldReset)
  · refine ⟨s.coldReset, congrArg Host.Outcome.next (State.endTransaction_of_pending hruns hp State.coldReset), rfl,
      rfl, rfl, rfl, rfl, rfl, rfl, rfl, rfl, rfl, rfl, rfl, rfl, rfl, rfl, ?_⟩
    simp [Keeps, State.coldReset, State.powerOnValues]

/-! ## COMMIT in STOPPED (8, R142) -/

/-- COMMIT in STOPPED of a valid staging copy installs it at once. -/
theorem State.takeCommit_of_stopped {s : State} (hm : s.scan.mode = .stopped) (hv : s.store.staging.valid = true) :
    s.takeCommit = s.install s.store.staging := by
  have hnone : validationFailure s.store.staging = none := by simpa [Configuration.valid] using hv
  simp [State.takeCommit, hm, hnone]

theorem State.install_keys (s : State) (new : Configuration) (c : Channel) :
    (s.install new).keys[c] = (installKey s.live new c s.keys[c]).1 := by
  rw [← State.installCopy_keys]
  simp [State.install]

theorem State.install_groups (s : State) (new : Configuration) (g : GroupId) :
    (s.install new).groups[g] = (installGroup s.live new (s.install new).keys g s.groups[g]).1 := by
  have hk : (s.install new).keys = (s.installCopy new).keys := by simp [State.install]
  rw [hk, ← State.installCopy_groups]
  simp [State.install]

theorem State.install_hop (s : State) (new : Configuration) (c : Channel) :
    (s.install new).engine.hop[c] = hopIntoSet new.globals.hopSet s.engine.hop[c] := by
  simp [State.install, State.installCopy]

/-- The group an install leaves: cleared where its definition changed, else as R96 has it (8, R145). -/
theorem installGroup_eq (old new : Configuration) (keys : Vector KeyRecord 24) (g : GroupId) (run : GroupRun) :
    (installGroup old new keys g run).1 =
      if definitionChanged old.groups[g] new.groups[g] = true then GroupRun.cleared
      else if run.touched = true ∧ ∀ c ∈ new.groups[g].memberList, keys[c].state ≠ .pressed then GroupRun.cleared
      else run := by
  unfold installGroup releasedGroup
  simp only [membersIn_pressed_eq_nil, List.all_eq_true, bne_iff_ne]
  split
  · rfl
  split <;> rfl

/-- Out of DOZE an install offers the records of its keys and groups, and then CMD_DONE (8, R147). -/
theorem State.install_queue {s : State} {new : Configuration} (hm : s.scan.mode ≠ .doze) :
    (s.install new).queue = (s.installCopy new).queue.offerAll [⟨.cmdDone, 0x03, 0x02, 0⟩] := by
  simp [State.install, State.wakeByInstall, hm, cmdDoneRecord, ResultCode.code, CommandName.code]

theorem State.install_command {s : State} {new : Configuration} (hw : s.command.inProgress = none) :
    (s.install new).command = s.command.reporting 0x03 .ok 0 := by
  simp [State.install, State.leaveBusy, CommandName.code, CommandUnit.reporting, hw]

theorem State.install_store (s : State) (new : Configuration) :
    (s.install new).store = { s.store with live := new, snapshot := none } := by
  simp [State.install, State.installCopy]

/-- Settles O10: the install, block by block, and the lines after it. -/
theorem commitInStoppedInstalls : Obligations.CommitInStoppedInstalls := by
  intro s hidle hmode hvalid hnear hoff new
  have hexec : exec .commit s = .next (State.driveFrom s ((s.install new).pointAfter 0x06 .write)) :=
    congrArg Host.Outcome.next (by
      rw [← s.takeCommit_of_stopped hmode hvalid]
      exact State.commandByte_idle .commit hidle)
  obtain ⟨-, -, hwork⟩ := hidle
  have hstore := s.install_store new
  obtain ⟨-, -, -, heng, hscan⟩ := s.install_units new
  rw [hmode, if_neg (by decide)] at hscan
  have hhop := s.install_hop new
  have hkeys := s.install_keys new
  have hgroups := s.install_groups new
  have hcommand := State.install_command (new := new) hwork
  have hframe := s.install_frame new
  have hqueue := State.install_queue (s := s) (new := new) (by simp [hmode])
  have hcopyKeys : (s.installCopy new).keys = (s.install new).keys := by simp [State.install]
  have hcopyGroups : (s.installCopy new).groups = (s.install new).groups := by simp [State.install]
  rw [State.installCopy_queue hnear hoff, hcopyKeys, hcopyGroups, ← EventQueue.offerAll_append] at hqueue
  generalize s.install new = u at *
  refine ⟨_, hexec, hstore, heng, hhop, fun c => ?keys, fun hl => ⟨fun c => ?row, fun g => ?fits⟩,
    fun g => ?groups, State.driveFrom_follows (by simp [hframe]), hqueue, hcommand, ?port, ?frame⟩
  case keys => exact (hkeys c).trans (installKey_key _ _ _ _)
  case row => exact (hkeys c).symm ▸ installKey_row hl hvalid c s.keys[c]
  case fits => exact (hgroups g).symm ▸ installGroup_group hl hvalid u.keys g s.groups[g]
  case groups => exact (hgroups g).trans (installGroup_eq _ _ _ _ _)
  case port => simp [hframe]
  case frame => simp [Keeps, hframe, hscan]

end Sys2Proof.Machine
end

section
/-! SUPPORT. The start of a round (2, R22): of a mode's kind, over its channels, or completed at once where there is
none. -/

namespace Sys2Proof.Machine

/-! ## Stages 1 to 3 of a completion -/

@[simp] theorem State.withScan_live (s : State) (x : ScanController) : (s.withScan x).live = s.live := rfl

@[simp] theorem State.evaluated_live (s : State) (rs : List MeasResult) : (s.evaluated rs).live = s.live := rfl

theorem State.withScan_evaluated (s : State) (sc : ScanController) (rs : List MeasResult) :
    (s.withScan sc).evaluated rs =
      (s.evaluated rs).withScan { sc with counter := sc.counter + 1, round := none } :=
  s.evaluated_withScan sc rs

/-- No key wakes the part where none is found out of OFF, IDLE and FAULT (10, R165). -/
theorem State.wakeKeyCheck_of_none {s : State} (h : s.wakeKey = none) : s.wakeKeyCheck = s := by
  simp [State.wakeKeyCheck, h]

/-! ## The start of a round -/

/-- An ACTIVE round starts with no commit pending, over a list that is not empty (2, R22). -/
theorem State.startRound_active {s : State} {c : Channel} {rest : List Channel} (hs : s.store.snapshot = none)
    (hm : s.scan.mode ≠ .doze) (hl : s.live.scanList = c :: rest) :
    s.startRound =
      (s.withScan { s.scan with
        round := some ⟨.active, c :: rest, []⟩
        timer := some s.live.globals.roundPeriod.toNat
        due := false }).requestScan c := by
  have hk : roundKindOf s.scan.mode = .active := if_neg hm
  simpa only [hk, Configuration.period] using State.startRound_eq hs (by rw [hk]; exact hl)

/-- A DOZE round starts with no commit pending, over wake channels (2, R22; 10, R168). -/
theorem State.startRound_doze {s : State} {c : Channel} {rest : List Channel} (hs : s.store.snapshot = none)
    (hm : s.scan.mode = .doze) (hl : (s.live.scanList.filter fun d => s.live.channels[d].wake) = c :: rest) :
    s.startRound =
      (s.withScan { s.scan with
        round := some ⟨.doze, c :: rest, []⟩
        timer := some (10 * s.live.globals.dozePeriod.toNat)
        due := false }).requestScan c := by
  have hk : roundKindOf s.scan.mode = .doze := if_pos hm
  simpa only [hk, Configuration.period] using State.startRound_eq hs (by rw [hk]; exact hl)

/-- An ACTIVE round over an empty list is counted, evaluated with no result and checked for inactivity at its start
(2, R22, R26; 10, R160). -/
theorem State.startRound_active_empty {s : State} (hs : s.store.snapshot = none) (hm : s.scan.mode ≠ .doze)
    (hl : s.live.scanList = []) :
    s.startRound =
      ((s.evaluated []).withScan { s.scan with
        round := none, timer := some s.live.globals.roundPeriod.toNat, due := false,
        counter := s.scan.counter + 1 }).inactivityCheck := by
  have hk : roundKindOf s.scan.mode = .active := if_neg hm
  rw [State.startRound_empty hs (by rw [hk]; exact hl), hk, State.finishRound_active, State.withScan_evaluated]
  rfl

/-- A DOZE round with no wake channel is counted and evaluated with no result at its start, and no key wakes the part
(2, R26; 10, R168). -/
theorem State.startRound_doze_empty {s : State} (hs : s.store.snapshot = none) (hm : s.scan.mode = .doze)
    (hl : ∀ c ∈ s.live.scanList, s.live.channels[c].wake = false) :
    s.startRound =
      (s.evaluated []).withScan { s.scan with
        round := none, timer := some (10 * s.live.globals.dozePeriod.toNat), due := false,
        counter := s.scan.counter + 1 } := by
  have hk : roundKindOf s.scan.mode = .doze := if_pos hm
  have hnone : s.live.measuredChannels .doze = [] := by simpa [Configuration.measuredChannels] using hl
  rw [State.startRound_empty hs (by rw [hk]; exact hnone), hk, State.finishRound_doze, State.withScan_evaluated,
    State.wakeKeyCheck_of_none]
  · rfl
  · simp [State.wakeKey, hnone]

end Sys2Proof.Machine
end

section
/-! SUPPORT. The commands that begin, end and resume the scan: START, STOP, WAKE, and RECAL in DOZE (2, R28 to R32; 4,
R73, R76; 7, R127). -/

namespace Sys2Proof.Machine

/-! ## A byte that gives a command -/

/-- A command row in IDLE has its command's effect; the pointer moves on, and the lines follow. -/
theorem exec_command_idle {s : State} {i : Instr} {n : CommandName} (h : s.Idle)
    (hi : writtenAt i = some (0x06, n.code)) :
    exec i s = .next (State.driveFrom s ((s.takeCommand n).pointAfter 0x06 .write)) := by
  rw [exec_of_writtenAt hi, ← State.commandByte_idle n h, State.commandByte]

/-- The same where the command moves nothing the lines follow. -/
theorem exec_command_quiet {s u : State} {i : Instr} {n : CommandName} (h : s.Idle)
    (hi : writtenAt i = some (0x06, n.code)) (hu : s.takeCommand n = u) (hl : u.lines = s.lines) (hk : u.keys = s.keys)
    (hg : u.groups = s.groups) (hm : s.scan.mode = .doze ↔ u.scan.mode = .doze) :
    exec i s = .next (u.pointAfter 0x06 .write) := by
  rw [exec_command_idle h hi, hu, State.driveFrom_quiet (by simpa) (by simpa) (by simpa) (by simpa)]

theorem State.Idle.noWork {s : State} (h : s.Idle) : s.command.inProgress = none := h.2.2

@[simp] theorem State.clearInactivity_scan (s : State) :
    s.clearInactivity.scan = { s.scan with inactivity := 0 } := rfl

@[simp] theorem State.stopTimer_scan (s : State) :
    s.stopTimer.scan = { s.scan with timer := none, due := false } := rfl

@[simp] theorem State.enterBusy_command (s : State) (n : CommandName) (w : Work) :
    (s.enterBusy n w).command =
      { s.command.reporting n.code .pending 0 with inProgress := some ⟨w, s.command.arg0, s.command.arg1⟩ } := rfl

/-! ## START (2, R28) -/

/-- The part in ACTIVE, its inactivity count 0, after a command that ended with OK (2, R28; 7, R127). -/
def State.activated (s : State) (n : CommandName) : State :=
  ((s.changeMode .active .command 0xFF).clearInactivity).endCommand n.code .ok 0

@[simp] theorem State.activated_frame (s : State) (n : CommandName) :
    (s.activated n).power = s.power ∧ (s.activated n).port = s.port ∧ (s.activated n).store = s.store ∧
      (s.activated n).engine = s.engine ∧ (s.activated n).keys = s.keys ∧ (s.activated n).groups = s.groups ∧
      (s.activated n).trimRun = s.trimRun ∧ (s.activated n).lines = s.lines ∧
      (s.activated n).freeDraws = s.freeDraws ∧ (s.activated n).pending = s.pending := by
  simp [State.activated]

@[simp] theorem State.activated_live (s : State) (n : CommandName) : (s.activated n).live = s.live :=
  State.live_of_store (by simp)

@[simp] theorem State.activated_scan (s : State) (n : CommandName) :
    (s.activated n).scan = { s.scan with mode := .active, inactivity := 0 } := by
  simp [State.activated]

theorem State.activated_queue (s : State) (n : CommandName) :
    (s.activated n).queue = s.queue.offerAll [⟨.mode, 1, 0, 0xFF⟩, ⟨.cmdDone, n.code, 0x02, 0⟩] := by
  simp [State.activated, modeRecord, cmdDoneRecord, Mode.code, ModeCause.code, ResultCode.code]

theorem State.activated_command {s : State} (h : s.command.inProgress = none) (n : CommandName) :
    (s.activated n).command = s.command.reporting n.code .ok 0 := by
  simp [State.activated, h]

/-- Settles O5, by the start of an ACTIVE round. -/
theorem startBeginsRound : Obligations.StartBeginsRound := by
  intro s c rest hidle hmode hsnap hlist
  have htake : s.takeCommand .start = (s.activated .start).startRound := by
    simp [State.takeCommand, State.takeStart, hmode, hlist, State.activated]
  rw [State.startRound_active (by simpa) (by simp) (by simpa)] at htake
  refine ⟨_, exec_command_quiet hidle rfl htake (by simp) (by simp) (by simp) (by simp [hmode]), ?_, ?_, ?_, ?_, ?_, ?_⟩
  · simp
  · simp [State.live]
  · exact s.activated_queue .start
  · exact State.activated_command hidle.noWork .start
  · simp
  · simp [Keeps]

/-! ## WAKE (7, R127; 2, R32) -/

theorem State.leaveDoze_of_round {s : State} (h : s.scan.round ≠ none) : s.leaveDoze = s.stopTimer := by
  unfold State.leaveDoze
  split
  next hr => exact absurd hr h
  · rfl

/-- With no round in flight the first ACTIVE round starts at once (2, R32). -/
theorem State.leaveDoze_of_list {s : State} {c : Channel} {rest : List Channel} (hr : s.scan.round = none)
    (hs : s.store.snapshot = none) (hm : s.scan.mode = .active) (hl : s.live.scanList = c :: rest) :
    s.leaveDoze =
      (s.withScan { s.scan with
        round := some ⟨.active, c :: rest, []⟩
        timer := some s.live.globals.roundPeriod.toNat
        due := false }).requestScan c := by
  have hd : s.leaveDoze = s.stopTimer.startRound := by simp only [State.leaveDoze, hr]
  rw [hd, State.startRound_active (s := s.stopTimer) (by simpa) (by simp [hm]) hl]
  rfl

/-- Over an empty list that round completes in the same event; its inactivity count of at most 1 is below every limit
(2, R26; 10, R161). -/
theorem State.leaveDoze_of_empty {s : State} (hr : s.scan.round = none) (hs : s.store.snapshot = none)
    (hm : s.scan.mode = .active) (hi : s.scan.inactivity = 0) (hl : s.live.scanList = []) :
    s.leaveDoze =
      (s.evaluated []).withScan { s.scan with
        inactivity := quietCount (s.evaluated []).keys 0
        timer := some s.live.globals.roundPeriod.toNat
        due := false
        counter := s.scan.counter + 1 } := by
  have hd : s.leaveDoze = s.stopTimer.startRound := by simp only [State.leaveDoze, hr]
  have hq (keys : Vector KeyRecord 24) : quietCount keys 0 ≤ 1 := by
    unfold quietCount
    split <;> omega
  have hstays : ¬ dozesAt s.live (quietCount (s.evaluated []).keys 0) := fun ⟨h1, h2⟩ => by
    have := hq (s.evaluated []).keys
    omega
  rw [hd, State.startRound_active_empty (s := s.stopTimer) (by simpa) (by simp [hm]) hl, State.stopTimer,
    State.withScan_evaluated, State.withScan_withScan, State.inactivityCheck_of_stays (by simpa [hi] using hstays)]
  simp [hi, hr]

theorem CommandUnit.afterEvaluation_of_idle {u : CommandUnit} (h : u.inProgress = none) (keys : Vector KeyRecord 24) :
    u.afterEvaluation keys = (u, []) := by
  simp [CommandUnit.afterEvaluation, h]

/-- The return from DOZE leaves an IDLE command unit as it is. -/
theorem State.leaveDoze_command {s : State} (hs : s.store.snapshot = none) (hm : s.scan.mode = .active)
    (hi : s.scan.inactivity = 0) (hw : s.command.inProgress = none) : s.leaveDoze.command = s.command := by
  by_cases hr : s.scan.round = none
  · cases hl : s.live.scanList with
    | nil => rw [State.leaveDoze_of_empty hr hs hm hi hl]; simp [CommandUnit.afterEvaluation_of_idle hw]
    | cons c rest => rw [State.leaveDoze_of_list hr hs hm hl]; simp
  · rw [State.leaveDoze_of_round hr]
    simp

/-- Settles O15, by whether a round is in flight and whether the list is empty. -/
theorem wakeReturnsToActive : Obligations.WakeReturnsToActive := by
  intro s hidle hmode hsnap queue period
  have hexec := exec_command_idle (i := .wake) (n := .wake) hidle rfl
  have htake : s.takeCommand .wake = (s.activated .wake).leaveDoze := by
    simp [State.takeCommand, State.takeWake, hmode, State.activated]
  have hcommand : (s.activated .wake).command = s.command.reporting 0x07 .ok 0 :=
    State.activated_command hidle.noWork .wake
  have hwork : (s.activated .wake).command.inProgress = none := by rw [hcommand]; exact hidle.noWork
  have hqueue : (s.activated .wake).queue = queue := s.activated_queue .wake
  refine ⟨_, hexec, ?_, State.driveFrom_follows (by simp), by simp, fun hr => ?_, fun c rest hr hl => ?_,
    fun hr hl => ?_⟩ <;> rw [htake]
  · simpa [State.leaveDoze_command (s := s.activated .wake) (by simpa) (by simp) (by simp) hwork] using hcommand
  · rw [State.leaveDoze_of_round (by simpa)]
    exact ⟨by simp, hqueue, by simp [Keeps]⟩
  · rw [State.leaveDoze_of_list (by simpa) (by simpa) (by simp) (by simpa)]
    exact ⟨by simp [period], by simp [State.live], hqueue, by simp [Keeps]⟩
  · rw [State.leaveDoze_of_empty (by simpa) (by simpa) (by simp) (by simp) (by simpa)]
    obtain ⟨hk, hg, hq⟩ := State.evaluate_congr (s := s.withQueue queue) (u := s.activated .wake) [] (by simp) (by simp)
      (by simp) (by simpa)
    refine ⟨hk, hg, ?_, ?_, by simp [Keeps]⟩
    · simp [State.evaluated, CommandUnit.afterEvaluation_of_idle hwork, hq]
    · simp [State.evaluated, period, hk]

/-! ## Forced transitions with their groups -/

/-- The groups follow the keys of a forced transition (5, R96). -/
theorem State.forceKeys_groupsFollow (s : State) (cs : List Channel) (move : Channel → KeyRecord → KeyOutcome)
    (cause : ReleaseCause) : GroupsFollow s ((s.forceKeys cs move).followGroups cause) := by
  intro g
  rw [State.followGroups_groups]
  simp [State.groupLeft, State.live]

/-- The records of a forced transition: those of the keys, then those of the groups (3, R57; 5, R96). -/
theorem State.forceKeys_followGroups_queue (s : State) (cs : List Channel)
    (move : Channel → KeyRecord → KeyOutcome) (cause : ReleaseCause) :
    ((s.forceKeys cs move).followGroups cause).queue =
      s.queue.offerAll
        (cs.flatMap (fun c => (move c s.keys[c]).2) ++
          s.groupLeftRecords ((s.forceKeys cs move).followGroups cause).keys cause.code) := by
  rw [State.followGroups_queue, EventQueue.offerAll_append, State.forceKeys_queue]
  simp [State.groupLeftRecords, State.groupLeft, State.live]

/-- STOP's release, key by key (3, R58). -/
theorem State.releaseForStop_keys (s : State) (c : Channel) :
    s.releaseForStop.keys[c] =
      if s.live.listed c = false then s.keys[c]
      else if s.keys[c].state = .cal then { s.keys[c] with acc := Accumulator.empty }
      else if s.keys[c].state.handThere = true then s.keys[c].atIdle else s.keys[c] := by
  cases hl : s.live.listed c <;> simp_all [State.releaseForStop, stopKey_eq, Configuration.listed]

theorem State.releaseForStop_queue (s : State) :
    s.releaseForStop.queue = s.queue.offerAll
      (s.live.scanList.flatMap (fun c =>
          if s.keys[c].state.handThere = true then forcedRecords (s.live.sliderMember c) 0x03 c s.keys[c] else [])
        ++ s.groupLeftRecords s.releaseForStop.keys 0x03) := by
  have h := s.forceKeys_followGroups_queue s.live.scanList (stopKey s.live) .stop
  simp only [stopKey_eq] at h
  exact h

/-- RECAL sends its targets to CAL (4, R73). -/
theorem State.sendToCal_keys (s : State) (targets : List Channel) (c : Channel) :
    (s.sendToCal targets).keys[c] = if c ∈ targets then s.keys[c].atCal else s.keys[c] := by
  simp [State.sendToCal, recalKey, forced_to_cal]

theorem State.sendToCal_queue (s : State) (targets : List Channel) :
    (s.sendToCal targets).queue = s.queue.offerAll
      (targets.flatMap (fun c => forcedRecords (s.live.sliderMember c) 0x06 c s.keys[c])
        ++ s.groupLeftRecords (s.sendToCal targets).keys 0x00) := by
  have h := s.forceKeys_followGroups_queue targets (recalKey s.live) .normal
  simp only [recalKey, forced_to_cal] at h
  exact h

/-- Whether the groups follow is a matter of the groups and the keys after the event. -/
theorem GroupsFollow.congr {s t u : State} (h : GroupsFollow s t) (hg : u.groups = t.groups) (hk : u.keys = t.keys) :
    GroupsFollow s u := by
  intro g
  rw [hg, hk]
  exact h g

/-! ## STOP (2, R29) -/

/-- The part after STOP (2, R29). -/
def State.stopped (s : State) : State :=
  ((s.abandonRound.stopTimer.releaseForStop).changeMode .stopped .command 0xFF).endCommand CommandName.stop.code .ok 0

/-- Settles O8: the release of STOP, on a part whose round and timer are gone. -/
theorem stopReleasesAndStops : Obligations.StopReleasesAndStops := by
  intro s hidle hmode
  have hexec := exec_command_idle (i := .stop) (n := .stop) hidle rfl
  have htake : s.takeCommand .stop = s.stopped := if_pos hmode
  rw [htake] at hexec
  have hkeys : s.stopped.keys = s.abandonRound.stopTimer.releaseForStop.keys := by simp [State.stopped]
  have hgroups : s.stopped.groups = s.abandonRound.stopTimer.releaseForStop.groups := by simp [State.stopped]
  have hqueue : s.stopped.queue = s.abandonRound.stopTimer.releaseForStop.queue.offerAll
      [⟨.mode, 0, 0, 0xFF⟩, ⟨.cmdDone, 0x02, 0x02, 0⟩] := by
    simp [State.stopped, modeRecord, cmdDoneRecord, Mode.code, ModeCause.code, CommandName.code, ResultCode.code]
  rw [State.releaseForStop_queue, ← EventQueue.offerAll_append, ← hkeys] at hqueue
  have hfollow : GroupsFollow s s.abandonRound.stopTimer.releaseForStop :=
    s.abandonRound.stopTimer.forceKeys_groupsFollow s.live.scanList (stopKey s.live) .stop
  refine ⟨_, hexec, ?scan, ?engine, fun c => ?keys, hfollow.congr hgroups hkeys, State.driveFrom_follows ?lines, hqueue,
    ?command, ?port, ?frame⟩
  case keys => exact (congrArg (·[c]) hkeys).trans (s.abandonRound.stopTimer.releaseForStop_keys c)
  case scan => simp [State.stopped, State.abandonRound]
  case engine => simp [State.stopped, State.abandonRound, State.abandonMeasurement]
  case lines => simp [State.stopped]
  case command => simp [State.stopped, hidle.noWork, CommandName.code]
  case port => simp [State.stopped]
  case frame => simp [Keeps, State.stopped]

/-! ## RECAL in DOZE (4, R73, R76) -/

/-- The targets of a RECAL argument that names every listed key, or one (4, R72). -/
theorem recalTargets_of {cfg : Configuration} {arg : Byte} {targets : List Channel}
    (h : (arg = 0xFF ∧ targets = cfg.scanList) ∨
      ∃ d : Channel, arg = idByte d ∧ cfg.listed d = true ∧ targets = [d]) :
    recalTargets cfg arg = some targets := by
  obtain ⟨rfl, rfl⟩ | ⟨d, rfl, hd, rfl⟩ := h
  · rfl
  · have hne : ∀ d : Channel, idByte d ≠ 0xFF := by decide
    have hc : ∀ d : Channel, channelOf (idByte d) = some d := by decide
    rw [recalTargets, if_neg (hne d), hc d]
    simp [hd]

theorem State.takeRecal_of_targets {s : State} {targets : List Channel} (hne : targets ≠ [])
    (h : (s.command.arg0 = 0xFF ∧ targets = s.live.scanList) ∨
      ∃ d : Channel, s.command.arg0 = idByte d ∧ s.live.listed d = true ∧ targets = [d]) :
    s.takeRecal = s.recalKeys targets := by
  rw [State.takeRecal, recalTargets_of h]
  cases targets with
  | nil => exact absurd rfl hne
  | cons c rest => rfl

/-- The part that RECAL has returned to ACTIVE, before its first round starts (4, R76). -/
def State.recalled (s : State) (targets : List Channel) : State :=
  (((s.sendToCal targets).changeMode .active .recal 0xFF).clearInactivity).enterBusy .recal (.recal targets 0)

@[simp] theorem State.recalled_frame (s : State) (targets : List Channel) :
    (s.recalled targets).power = s.power ∧ (s.recalled targets).port = s.port ∧
      (s.recalled targets).store = s.store ∧ (s.recalled targets).engine = s.engine ∧
      (s.recalled targets).keys = (s.sendToCal targets).keys ∧
      (s.recalled targets).groups = (s.sendToCal targets).groups ∧ (s.recalled targets).trimRun = s.trimRun ∧
      (s.recalled targets).lines = s.lines ∧ (s.recalled targets).freeDraws = s.freeDraws ∧
      (s.recalled targets).pending = s.pending := by
  simp [State.recalled]

@[simp] theorem State.recalled_live (s : State) (targets : List Channel) : (s.recalled targets).live = s.live :=
  State.live_of_store (by simp)

@[simp] theorem State.recalled_scan (s : State) (targets : List Channel) :
    (s.recalled targets).scan = { s.scan with mode := .active, inactivity := 0 } := by
  simp [State.recalled]

theorem State.recalled_queue (s : State) (targets : List Channel) :
    (s.recalled targets).queue = s.queue.offerAll
      (targets.flatMap (fun d => forcedRecords (s.live.sliderMember d) 0x06 d s.keys[d])
        ++ s.groupLeftRecords (s.sendToCal targets).keys 0x00 ++ [⟨.mode, 1, 0x04, 0xFF⟩]) := by
  rw [EventQueue.offerAll_append, ← State.sendToCal_queue]
  simp [State.recalled, modeRecord, Mode.code, ModeCause.code]

theorem State.recalled_command (s : State) (targets : List Channel) :
    (s.recalled targets).command = { s.command.reporting 0x04 .pending 0 with
      inProgress := some ⟨.recal targets 0, s.command.arg0, s.command.arg1⟩ } := by
  simp [State.recalled, CommandName.code]

/-- Settles O12, by whether a DOZE round is in flight. -/
theorem recalWakesFromDoze : Obligations.RecalWakesFromDoze := by
  intro s targets c rest hidle hmode hsnap htargets hlist
  have hexec := exec_command_idle (i := .recal) (n := .recal) hidle rfl
  have hne : targets ≠ [] := by
    obtain ⟨-, rfl⟩ | ⟨d, -, -, rfl⟩ := htargets <;> simp [hlist]
  have htake : s.takeCommand .recal = (s.recalled targets).leaveDoze := by
    rw [State.takeCommand, State.takeRecal_of_targets hne htargets]
    simp [State.recalKeys, hmode, State.recalled]
  have hfollow : GroupsFollow s (s.sendToCal targets) := s.forceKeys_groupsFollow targets (recalKey s.live) .normal
  have hkeys := s.sendToCal_keys targets
  have hqueue := s.recalled_queue targets
  have hcommand := s.recalled_command targets
  cases hr : s.scan.round with
  | some r =>
    rw [htake, State.leaveDoze_of_round (by simp [hr])] at hexec
    refine ⟨_, hexec, ?_, hfollow.congr ?_ ?_, State.driveFrom_follows ?_, ?_, ?_, ?_, ?_, ?_⟩ <;>
      simp [hkeys, hqueue, hcommand, Keeps]
  | none =>
    rw [htake, State.leaveDoze_of_list (by simpa) (by simpa) (by simp) (by simpa)] at hexec
    refine ⟨_, hexec, ?_, hfollow.congr ?_ ?_, State.driveFrom_follows ?_, ?_, ?_, ?_, ?_, ?_⟩ <;>
      simp [hkeys, hqueue, hcommand, Keeps, State.live]

end Sys2Proof.Machine
end

section
/-! SUPPORT. The round timer, and the completion of a round by its last result (2, R23, R26; 10, R160, R161, R165). -/

namespace Sys2Proof.Machine

/-! ## ROUND_TIMER_EXPIRY (2, R23) -/

theorem exec_roundTimerExpiry {s : State} (h : s.Runs) :
    exec .roundTimerExpiry s = .next (State.driveFrom s s.expireRoundTimer) :=
  congrArg Host.Outcome.next (State.inside_of_runs h State.expireRoundTimer)

theorem State.expireRoundTimer_of_stopped {s : State} (h : s.scan.timer = none) : s.expireRoundTimer = s := by
  simp only [State.expireRoundTimer, h]

/-- In flight, the next round is due and OVERRUN set (2, R23, R24). -/
theorem State.expireRoundTimer_of_round {s : State} (h : s.scan.timer ≠ none) (hr : s.scan.round ≠ none) :
    s.expireRoundTimer = s.withScan { s.scan with timer := none, due := true, overrun := true } := by
  obtain ⟨n, hn⟩ := Option.ne_none_iff_exists'.1 h
  obtain ⟨r, hr⟩ := Option.ne_none_iff_exists'.1 hr
  simp only [State.expireRoundTimer, hn, hr]

/-- With no round in flight the next one starts (2, R23). -/
theorem State.expireRoundTimer_of_free {s : State} (h : s.scan.timer ≠ none) (hr : s.scan.round = none) :
    s.expireRoundTimer = s.startRound := by
  obtain ⟨n, hn⟩ := Option.ne_none_iff_exists'.1 h
  simp only [State.expireRoundTimer, hn, hr]

/-- Settles O31, by whether the timer runs, whether a round is in flight, and whether there is a channel to measure. -/
theorem timerStartsRound : Obligations.TimerStartsRound := by
  intro s hruns
  have hexec := exec_roundTimerExpiry hruns
  refine ⟨fun ht => ?stopped, fun ht hr => ?overrun, fun c rest ht hr hs => ?starts, fun ht hr hs => ?empty⟩
  case stopped => rw [hexec, State.expireRoundTimer_of_stopped ht, State.driveFrom_self]
  case overrun =>
    rw [State.expireRoundTimer_of_round ht hr, State.driveFrom_quiet (by simp) (by simp) (by simp) (by simp)] at hexec
    exact ⟨_, hexec, rfl, by simp [Keeps]⟩
  case starts =>
    intro doze hl
    rw [State.expireRoundTimer_of_free ht hr] at hexec
    by_cases hm : s.scan.mode = .doze
    · rw [State.startRound_doze hs hm (by simpa [doze, hm] using hl),
        State.driveFrom_quiet (by simp) (by simp) (by simp) (by simp)] at hexec
      exact ⟨_, hexec, by simp [doze, hm], by simp [State.live], by simp [Keeps]⟩
    · rw [State.startRound_active hs hm (by simpa [doze, hm] using hl),
        State.driveFrom_quiet (by simp) (by simp) (by simp) (by simp)] at hexec
      exact ⟨_, hexec, by simp [doze, hm], by simp [State.live], by simp [Keeps]⟩
  case empty =>
    rw [State.expireRoundTimer_of_free ht hr] at hexec
    intro e unit quiet dozes
    refine ⟨fun hm hl => ?_, fun hm hl => ?_⟩
    · rw [State.startRound_doze_empty hs hm hl] at hexec
      exact ⟨_, hexec, rfl, rfl, rfl, rfl, by simp [hr], State.driveFrom_follows rfl, by simp [Keeps]⟩
    · rw [State.startRound_active_empty hs hm hl] at hexec
      by_cases hd : dozes
      · rw [State.inactivityCheck_of_dozes (by exact hd)] at hexec
        refine ⟨_, hexec, rfl, rfl, rfl, ?_, ?_, State.driveFrom_follows rfl, by simp [Keeps]⟩
        · rw [if_pos hd, EventQueue.offerAll_append]
          rfl
        · simp only [if_pos hd, hr]
          rfl
      · rw [State.inactivityCheck_of_stays (by exact hd)] at hexec
        refine ⟨_, hexec, rfl, rfl, rfl, ?_, ?_, State.driveFrom_follows rfl, by simp [Keeps]⟩
        · rw [if_neg hd, List.append_nil]
          rfl
        · simp only [if_neg hd, hr]
          rfl

/-! ## The end of a round (2, R26) -/

/-- The part at the end of a round, after stages 1 to 3 of its completion: the round counted and evaluated, the engine
IDLE, a waiting RECAL advanced, and the mode, the inactivity count and the records that stage 3 gives. -/
def State.roundEnded (s : State) (rs : List MeasResult) (mode : Mode) (inactivity : Nat)
    (records : List EventRecord) : State :=
  let e := s.evaluate rs
  let unit := s.command.afterEvaluation e.keys
  { s with
    keys := e.keys
    groups := e.groups
    command := unit.1
    queue := e.queue.offerAll (unit.2 ++ records)
    engine := { s.engine with current := none }
    scan := { s.scan with mode := mode, round := none, counter := s.scan.counter + 1, inactivity := inactivity } }

@[simp] theorem State.roundEnded_frame (s : State) (rs : List MeasResult) (m : Mode) (i : Nat) (es : List EventRecord) :
    (s.roundEnded rs m i es).power = s.power ∧ (s.roundEnded rs m i es).port = s.port ∧
      (s.roundEnded rs m i es).store = s.store ∧ (s.roundEnded rs m i es).trimRun = s.trimRun ∧
      (s.roundEnded rs m i es).lines = s.lines ∧ (s.roundEnded rs m i es).freeDraws = s.freeDraws ∧
      (s.roundEnded rs m i es).pending = s.pending := by
  simp [State.roundEnded]

@[simp] theorem State.roundEnded_scan (s : State) (rs : List MeasResult) (m : Mode) (i : Nat) (es : List EventRecord) :
    (s.roundEnded rs m i es).scan =
      { s.scan with mode := m, round := none, counter := s.scan.counter + 1, inactivity := i } := rfl

section

variable {s : State} {rs : List MeasResult}

/-- Stages 1 and 2 of a completion, on a part whose engine has gone IDLE. -/
theorem State.abandonMeasurement_evaluated (s : State) (rs : List MeasResult) :
    s.abandonMeasurement.evaluated rs = s.roundEnded rs s.scan.mode s.scan.inactivity [] := by
  rw [State.evaluated_abandonMeasurement]
  simp [State.roundEnded, State.evaluated]

/-- A record of stage 3 follows those of the evaluation and of a waiting RECAL (2, R26). -/
theorem State.roundEnded_record (s : State) (rs : List MeasResult) (mode : Mode) (inactivity : Nat) (r : EventRecord) :
    s.roundEnded rs mode inactivity [r] = (s.roundEnded rs mode inactivity []).offer r := by
  simp only [State.roundEnded, List.append_nil, EventQueue.offerAll_append]
  rfl

/-- An ACTIVE round that leaves the inactivity count below the limit (10, R160). -/
theorem State.finishRound_active_stays
    (h : ¬ dozesAt s.live (quietCount (s.evaluate rs).keys s.scan.inactivity)) :
    s.abandonMeasurement.finishRound .active rs =
      s.roundEnded rs s.scan.mode (quietCount (s.evaluate rs).keys s.scan.inactivity) [] := by
  rw [State.finishRound_active, State.abandonMeasurement_evaluated]
  exact State.inactivityCheck_of_stays h

/-- An ACTIVE round that brings the inactivity count to the limit (10, R161). -/
theorem State.finishRound_active_dozes
    (h : dozesAt s.live (quietCount (s.evaluate rs).keys s.scan.inactivity)) :
    s.abandonMeasurement.finishRound .active rs =
      (s.roundEnded rs .doze (quietCount (s.evaluate rs).keys s.scan.inactivity)
        [⟨.mode, 2, 0x01, 0xFF⟩]).setDozeTimer := by
  rw [State.finishRound_active, State.abandonMeasurement_evaluated]
  rw [State.roundEnded_record]
  exact State.inactivityCheck_of_dozes h

theorem State.wakeKeyCheck_of_some {s : State} {w : Channel} (hm : s.scan.mode = .doze) (hw : s.wakeKey = some w) :
    s.wakeKeyCheck = (s.changeMode .active .wakeKey (idByte w)).clearInactivity := by
  simp [State.wakeKeyCheck, hm, hw]

/-- A DOZE round that finds a waking key (10, R165). -/
theorem State.finishRound_doze_wakes {w : Channel} (hm : s.scan.mode = .doze)
    (h : s.live.wakingKey (s.evaluate rs).keys = some w) :
    s.abandonMeasurement.finishRound .doze rs = s.roundEnded rs .active 0 [⟨.mode, 1, 0x02, idByte w⟩] := by
  rw [State.finishRound_doze, State.abandonMeasurement_evaluated]
  have hw : (s.roundEnded rs s.scan.mode s.scan.inactivity []).wakeKey = some w := (State.wakeKey_eq _).trans h
  rw [State.roundEnded_record]
  exact State.wakeKeyCheck_of_some hm hw

/-- In ACTIVE, and in DOZE with no waking key, a DOZE round leaves the mode and the inactivity count (10, R165). -/
theorem State.finishRound_doze_stays
    (h : s.scan.mode = .active ∨ s.live.wakingKey (s.evaluate rs).keys = none) :
    s.abandonMeasurement.finishRound .doze rs = s.roundEnded rs s.scan.mode s.scan.inactivity [] := by
  rw [State.finishRound_doze, State.abandonMeasurement_evaluated]
  obtain hm | hw := h
  · exact if_neg (by simp [State.roundEnded, hm])
  · exact State.wakeKeyCheck_of_none ((State.wakeKey_eq _).trans hw)

/-- Stage 4: the next round starts at this completion, or the part waits for its timer. -/
theorem State.completeRound_eq {f : State} {kind : RoundKind} (h : s.finishRound kind rs = f) :
    s.completeRound kind rs = if f.startsAtCompletion kind then f.startRound else f := by
  rw [State.completeRound, h]

end

/-! ## The last result of a round -/

section

variable {s f : State} {m : Measurement} {r : Round} {cycles : Nat}

/-- The last result completes the round, and the next one starts; the lines follow (2, R26). -/
theorem exec_lastResult_starts (hruns : s.Runs) (h : s.LastResult m r cycles)
    (hf : s.abandonMeasurement.finishRound r.kind (r.results ++ [m.resultWith cycles]) = f)
    (hs : f.startsAtCompletion r.kind = true) :
    exec (.conversion cycles) s = .next (State.driveFrom s f.startRound) := by
  rw [exec_conversion hruns, State.endConversion_last h, State.completeRound_eq hf, if_pos hs]

/-- The last result completes the round, and the timer runs on; the lines follow (2, R26). -/
theorem exec_lastResult_waits (hruns : s.Runs) (h : s.LastResult m r cycles)
    (hf : s.abandonMeasurement.finishRound r.kind (r.results ++ [m.resultWith cycles]) = f)
    (hs : f.startsAtCompletion r.kind = false) :
    exec (.conversion cycles) s = .next (State.driveFrom s f) := by
  rw [exec_conversion hruns, State.endConversion_last h, State.completeRound_eq hf, if_neg (by simp [hs])]

end

/-- Settles O33: DOZE at the limit, else a due round, else the timer runs on. -/
theorem activeRoundCompletes : Obligations.ActiveRoundCompletes := by
  intro s m r cycles c rest hruns hlast hkind hmode hlist
  have hstarts {f : State} := exec_lastResult_starts (f := f) hruns hlast
  have hwaits {f : State} := exec_lastResult_waits (f := f) hruns hlast
  rw [hkind] at hstarts hwaits
  generalize r.results ++ [m.resultWith cycles] = rs at hstarts hwaits ⊢
  intro e unit quiet dozes hcommit
  by_cases hd : dozes
  · have hexec := hwaits (State.finishRound_active_dozes hd) rfl
    simp only [if_pos hd, if_neg (not_and.2 fun h => absurd hd h)]
    exact ⟨_, hexec, rfl, rfl, rfl, rfl, rfl, rfl, State.driveFrom_follows rfl, by simp [Keeps]⟩
  have hend := State.finishRound_active_stays hd
  cases hdue : s.scan.due with
  | true =>
    have hsnap : s.store.snapshot = none := by simpa [hd, hdue] using hcommit
    have hexec := hstarts hend hdue
    rw [State.startRound_active (by exact hsnap) (by simp [hmode]) (by exact hlist)] at hexec
    simp only [hd, not_false_eq_true, and_self, if_true]
    exact ⟨_, hexec, rfl, rfl, rfl, rfl, rfl, rfl, State.driveFrom_follows rfl, by simp [Keeps]⟩
  | false =>
    have hexec := hwaits hend hdue
    simp only [if_neg hd, Bool.false_eq_true, and_false, if_false]
    exact ⟨_, hexec, rfl, rfl, rfl, rfl, rfl, rfl, State.driveFrom_follows rfl, by simp [Keeps]⟩

/-- Settles O34, by the mode, the waking key and whether a round is due. -/
theorem dozeRoundLooksForWakeKey : Obligations.DozeRoundLooksForWakeKey := by
  intro s m r cycles c rest hruns hlast hkind hlist
  have hstarts {f : State} := exec_lastResult_starts (f := f) hruns hlast
  have hwaits {f : State} := exec_lastResult_waits (f := f) hruns hlast
  rw [hkind] at hstarts hwaits
  generalize r.results ++ [m.resultWith cycles] = rs at hstarts hwaits ⊢
  intro e unit counted ends activeRound request
  refine ⟨fun hmode => ⟨fun hw hdue => ?waits, fun w ws hw hdue hsnap hwake => ?due, fun w hw hsnap => ?wakes⟩,
    fun hmode hsnap => ?active⟩
  case waits =>
    have hexec := hwaits (State.finishRound_doze_stays (.inr hw)) (by simp [State.startsAtCompletion, hmode, hdue])
    exact ⟨_, hexec, rfl, rfl, rfl, rfl, rfl, rfl, State.driveFrom_follows rfl, by simp [Keeps]⟩
  case due =>
    have hexec := hstarts (State.finishRound_doze_stays (.inr hw)) (by simp [State.startsAtCompletion, hdue])
    rw [State.startRound_doze (by exact hsnap) (by exact hmode) (by exact hwake)] at hexec
    exact ⟨_, hexec, rfl, rfl, rfl, rfl, rfl, rfl, State.driveFrom_follows rfl, by simp [Keeps]⟩
  case wakes =>
    have hexec := hstarts (State.finishRound_doze_wakes hmode hw) rfl
    rw [State.startRound_active (by exact hsnap) (by simp) (by exact hlist)] at hexec
    exact ⟨_, hexec, rfl, rfl, rfl, rfl, rfl, rfl, State.driveFrom_follows rfl, by simp [Keeps]⟩
  case active =>
    have hend := State.finishRound_doze_stays (s := s) (rs := rs) (.inl hmode)
    rw [hmode] at hend
    have hexec := hstarts hend rfl
    rw [State.startRound_active (by exact hsnap) (by simp) (by exact hlist)] at hexec
    exact ⟨_, hexec, rfl, rfl, rfl, rfl, rfl, rfl, State.driveFrom_follows rfl, by simp [Keeps]⟩

end Sys2Proof.Machine
end

section
/-! SUPPORT. An evaluation sends no key into OFF or out of it, and leaves near flags that fit the states (3, R38,
R39). -/

namespace Sys2Proof.Machine

/-! ## Keys through an evaluation (3, R38, R39) -/

/-- The key after a step is in OFF as it was before, and its near flag goes on fitting its state. -/
def KeyRecord.FitsAfter (before after : KeyRecord) : Prop :=
  (after.state = .off ↔ before.state = .off) ∧ (before.NearFits → after.NearFits)

theorem KeyRecord.FitsAfter.refl (k : KeyRecord) : k.FitsAfter k := ⟨Iff.rfl, id⟩

theorem KeyRecord.FitsAfter.trans {k k' k'' : KeyRecord} (h : k.FitsAfter k') (h' : k'.FitsAfter k'') :
    k.FitsAfter k'' :=
  ⟨h'.1.trans h.1, fun hn => h'.2 (h.2 hn)⟩

/-- A step that keeps the state and the near flag. -/
theorem KeyRecord.FitsAfter.of_same {k k' : KeyRecord} (hs : k'.state = k.state) (hn : k'.near = k.near) :
    k.FitsAfter k' := by
  simp [KeyRecord.FitsAfter, KeyRecord.NearFits, hs, hn]

theorem moveKey_state (c : Channel) (st : KeyState) (k : KeyRecord) : (moveKey c st k).1.state = st := by
  cases st <;> cases h : k.near <;> simp [moveKey, KeyRecord.enter, h]

theorem moveKey_nearFits (c : Channel) (st : KeyState) (k : KeyRecord) : (moveKey c st k).1.NearFits := by
  cases st <;> cases h : k.near <;> simp [moveKey, KeyRecord.enter, KeyRecord.NearFits, KeyState.handThere, h]

/-- A move from a state other than OFF to another such state. -/
theorem moveKey_fitsAfter {k k' : KeyRecord} (c : Channel) {st : KeyState} (hst : st ≠ .off) (hk : k.state ≠ .off) :
    k.FitsAfter (moveKey c st k').1 :=
  ⟨by simp [moveKey_state, hst, hk], fun _ => moveKey_nearFits c st k'⟩

section

/-! Each state's own step, on a key `k'` that differs from `k` in neither the state nor the near flag. -/

variable {k k' : KeyRecord} (hk : k.state ≠ .off) (hs : k'.state = k.state) (hn : k'.near = k.near)

include hk

theorem goDown_fitsAfter (ch : ChannelConfig) (c : Channel) (d : Int) : k.FitsAfter (goDown ch c d k').1 :=
  moveKey_fitsAfter c (by split <;> decide) hk

theorem goUp_fitsAfter (ch : ChannelConfig) (c : Channel) : k.FitsAfter (goUp ch c k').1 :=
  moveKey_fitsAfter c (by split <;> decide) hk

include hs hn

theorem calibrationSample_fitsAfter (g : Globals) (c : Channel) (mean : Nat) :
    k.FitsAfter (calibrationSample g c mean k').1 := by
  unfold calibrationSample endAttempt
  dsimp only
  (repeat' split)
  · exact moveKey_fitsAfter c (by decide) hk
  · exact .of_same hs hn
  · exact moveKey_fitsAfter c (by decide) hk
  · exact .of_same hs hn

theorem idleStep_fitsAfter (g : Globals) (ch : ChannelConfig) (c : Channel) (mean : Nat) (d : Int) :
    k.FitsAfter (idleStep g ch c mean d k').1 := by
  unfold idleStep quietStep driftStep
  (repeat' split)
  · exact goUp_fitsAfter hk ch c
  · exact moveKey_fitsAfter c (by decide) hk
  all_goals exact .of_same hs hn

theorem proxStep_fitsAfter (ch : ChannelConfig) (c : Channel) (d : Int) : k.FitsAfter (proxStep ch c d k').1 := by
  unfold proxStep
  (repeat' split)
  · exact goUp_fitsAfter hk ch c
  · exact .of_same hs hn
  · exact moveKey_fitsAfter c (by decide) hk

theorem detectStep_fitsAfter (ch : ChannelConfig) (c : Channel) (d : Int) :
    k.FitsAfter (detectStep ch c d k').1 := by
  unfold detectStep
  dsimp only
  (repeat' split)
  · exact moveKey_fitsAfter c (by decide) hk
  · exact .of_same hs hn
  · exact goDown_fitsAfter hk ch c d

theorem pressedStep_fitsAfter (ch : ChannelConfig) (member : Bool) (c : Channel) (d : Int) :
    k.FitsAfter (pressedStep ch member c d k').1 := by
  unfold pressedStep
  dsimp only
  (repeat' split)
  · exact goDown_fitsAfter hk ch c d
  · exact .of_same hs hn
  · exact .of_same hs hn

theorem suppressedStep_fitsAfter (ch : ChannelConfig) (c : Channel) (d : Int) :
    k.FitsAfter (suppressedStep ch c d k').1 := by
  unfold suppressedStep
  split
  · exact goDown_fitsAfter hk ch c d
  · exact .of_same hs hn

end

/-- A VALID result (3, R42 to R47). -/
theorem validStep_fitsAfter (g : Globals) (ch : ChannelConfig) (member : Bool) (c : Channel) (mean : Nat)
    (k : KeyRecord) : k.FitsAfter (validStep g ch member c mean k).1 := by
  cases hk : k.state <;> simp only [validStep, hk]
  case off => exact .refl k
  case fault => exact .refl k
  case cal => exact calibrationSample_fitsAfter (by simp [hk]) (by exact hk.symm) (by rfl) g c mean
  case idle => exact idleStep_fitsAfter (by simp [hk]) (by exact hk.symm) (by rfl) g ch c mean _
  case prox => exact proxStep_fitsAfter (by simp [hk]) (by exact hk.symm) (by rfl) ch c _
  case detect => exact detectStep_fitsAfter (by simp [hk]) (by exact hk.symm) (by rfl) ch c _
  case pressed => exact pressedStep_fitsAfter (by simp [hk]) (by exact hk.symm) (by rfl) ch member c _
  case suppressed => exact suppressedStep_fitsAfter (by simp [hk]) (by exact hk.symm) (by rfl) ch c _

/-- An OPEN or SHORT result (3, R50). -/
theorem faultStep_fitsAfter {k : KeyRecord} (g : Globals) (member : Bool) (c : Channel) (kind : FaultKind)
    (hk : k.state ≠ .off) : k.FitsAfter (faultStep g member c kind k).1 := by
  unfold faultStep
  dsimp only
  split
  · exact moveKey_fitsAfter c (by decide) hk
  · exact .of_same rfl rfl

/-- A result of any verdict (3, R42 to R50). -/
theorem channelStep_fitsAfter (g : Globals) (ch : ChannelConfig) (member : Bool) (r : MeasResult) (k : KeyRecord) :
    k.FitsAfter (channelStep g ch member r k).1 := by
  unfold channelStep
  split
  · exact .refl k
  next h =>
    have hk : k.state ≠ .off := fun ho => h (.inr ho)
    split
    · exact validStep_fitsAfter g ch member r.channel r.mean k
    · exact .refl k
    · exact faultStep_fitsAfter g member r.channel .openCircuit hk
    · exact faultStep_fitsAfter g member r.channel .shorted hk

theorem maxOnStep_fitsAfter {k : KeyRecord} (ch : ChannelConfig) (member : Bool) (c : Channel) (hk : k.state ≠ .off) :
    k.FitsAfter (maxOnStep ch member c k).1 := by
  unfold maxOnStep
  dsimp only
  split
  · exact moveKey_fitsAfter c (by decide) hk
  · exact .of_same rfl rfl

/-- The channel step and max-on (3, R41, R51). -/
theorem keyStage_fitsAfter (cfg : Configuration) (r : MeasResult) (k : KeyRecord) :
    k.FitsAfter (keyStage cfg r k).1 := by
  have hstep := channelStep_fitsAfter cfg.globals cfg.channels[r.channel] (cfg.sliderMember r.channel) r k
  unfold keyStage
  dsimp only
  split
  next h => exact hstep.trans (maxOnStep_fitsAfter _ _ _ (by rw [h.2]; decide))
  · exact hstep

theorem steppedKeys_fitsAfter (cfg : Configuration) (results : List MeasResult) (keys : Vector KeyRecord 24)
    (c : Channel) : keys[c].FitsAfter (steppedKeys cfg results keys)[c] := by
  simp only [steppedKeys, steppedKey, Fin.getElem_fin, getElem_tab]
  split
  · exact .refl _
  · exact keyStage_fitsAfter _ _ _

/-! ## The group stage -/

theorem enter_fitsAfter {k : KeyRecord} {st : KeyState} (hst : st = .pressed ∨ st = .suppressed)
    (hk : k.state ≠ .off) : k.FitsAfter (k.enter st) := by
  obtain rfl | rfl := hst <;>
    simp [KeyRecord.FitsAfter, KeyRecord.enter, KeyRecord.NearFits, KeyState.handThere, hk]

theorem suppress_fitsAfter {cs : List Channel} {keys : Vector KeyRecord 24}
    (h : ∀ c ∈ cs, keys[c].state = .pressed) (c : Channel) : keys[c].FitsAfter (suppress cs keys)[c] := by
  simp only [suppress, Fin.getElem_fin, getElem_tab]
  split
  next hc =>
    have hp : keys[c].state = .pressed := h c (by simpa using hc)
    exact enter_fitsAfter (.inr rfl) (by show keys[c].state ≠ .off; rw [hp]; decide)
  · exact .refl _

theorem strongest_mem {keys : Vector KeyRecord 24} {cs : List Channel} {c : Channel}
    (h : strongest keys cs = some c) : c ∈ cs := by
  induction cs generalizing c with
  | nil => cases h
  | cons a rest ih =>
    unfold strongest at h
    split at h
    · simp_all
    next d hd =>
      split at h <;> obtain rfl := Option.some.inj h
      · exact List.mem_cons_of_mem _ (ih hd)
      · exact List.mem_cons_self

/-- The arbitration of an EXCLUSIVE group moves pressed and suppressed members only (5, R84 to R86). -/
theorem arbitrate_fitsAfter (members : List Channel) (prior keys : Vector KeyRecord 24) (c : Channel) :
    keys[c].FitsAfter (arbitrate members prior keys)[c] := by
  have hpressed : ∀ d ∈ membersIn .pressed members keys, keys[d].state = .pressed := by simp [membersIn]
  unfold arbitrate
  dsimp only
  split
  · exact suppress_fitsAfter (fun d hd => hpressed d (List.mem_of_mem_filter hd)) c
  split
  · exact suppress_fitsAfter
      (fun d hd => hpressed d (List.mem_of_mem_filter (List.mem_of_mem_filter hd))) c
  split
  next raised hr =>
    have hraised : keys[raised].state = .suppressed := by
      have := strongest_mem hr
      simp_all [membersIn]
    simp only [Fin.getElem_fin, getElem_put]
    split
    next hc =>
      obtain rfl : c = raised := hc
      exact enter_fitsAfter (.inl rfl) (by show keys[c].state ≠ .off; rw [hraised]; decide)
    · exact .refl _
  · exact .refl _

theorem stageKeys_fitsAfter (cfg : Configuration) (prior keys : Vector KeyRecord 24) (c : Channel) :
    keys[c].FitsAfter (stageKeys cfg prior keys)[c] := by
  unfold stageKeys
  induction allGroups generalizing keys with
  | nil => exact .refl _
  | cons g rest ih =>
    refine KeyRecord.FitsAfter.trans ?_ (ih (groupKeys cfg prior keys g))
    unfold groupKeys
    split
    · exact arbitrate_fitsAfter _ _ _ _
    all_goals exact .refl _

/-- The keys of an evaluation (3, R41). -/
theorem State.evaluate_fitsAfter (s : State) (rs : List MeasResult) (c : Channel) :
    s.keys[c].FitsAfter (s.evaluate rs).keys[c] := by
  have : (s.evaluate rs).keys = stageKeys s.live s.keys (steppedKeys s.live rs s.keys) := by simp [State.evaluate]
  rw [this]
  exact (steppedKeys_fitsAfter _ _ _ c).trans (stageKeys_fitsAfter _ _ _ c)

theorem State.evaluate_nearFits {s : State} (h : s.NearFits) (rs : List MeasResult) : (s.evaluate rs).NearFits :=
  fun c => (s.evaluate_fitsAfter rs c).2 (h c)

theorem State.evaluate_offUnlisted {s : State} (h : s.OffUnlisted) (rs : List MeasResult) :
    (s.evaluate rs).OffUnlisted := by
  intro c
  have hlive : (s.evaluate rs).live = s.live := State.live_of_store (by simp)
  rw [hlive, (s.evaluate_fitsAfter rs c).1]
  exact h c

end Sys2Proof.Machine
end

section
/-! SUPPORT. The start of a round that installs a pending commit (8, R141 to R147), at the timer's expiry and at the
completion of a round (8, R142). -/

namespace Sys2Proof.Machine

/-- An event that ends with the start of a round on `u`, the commit of `new` pending. -/
theorem exec_installs {s u : State} {i : Instr} {new : Configuration}
    (hexec : exec i s = .next (State.driveFrom s u.startRound))
    (hu : Keeps [.scan, .engine, .keys, .groups, .queue, .command] s u)
    (hm : u.scan.mode = .active ∨ u.scan.mode = .doze) (hv : u.store.Valid) (hn : u.NearFits) (ho : u.OffUnlisted)
    (hs : u.store.snapshot = some new) :
    ∃ t, exec i s = .next t ∧ InstallStarts u new t ∧ LinesFollow s t ∧
      Keeps [.store, .scan, .engine, .keys, .groups, .queue, .command, .lines] s t := by
  simp only [Keeps, List.mem_cons, reduceCtorEq, List.not_mem_nil, or_false, or_true, false_or, true_or,
    true_and] at hu
  refine ⟨_, hexec, ?_, State.driveFrom_follows ?_, ?_⟩
  · exact State.startRound_installs hm hv.1 (hv.2 new hs) hn ho hs
  · simp [hu]
  · simp [Keeps, hu]

/-- Settles O32: the timer's expiry, and the completions that start a round. -/
theorem roundStartInstallsCommit : Obligations.RoundStartInstallsCommit := by
  intro s new hruns hvalid hnear hoff hsnap
  refine ⟨fun ht hr hm => ?timer, fun m r cycles hlast => ?_⟩
  case timer =>
    have hexec := exec_roundTimerExpiry hruns
    rw [State.expireRoundTimer_of_free ht hr] at hexec
    exact exec_installs hexec (by simp [Keeps]) hm hvalid hnear hoff hsnap
  have hstarts {f : State} := exec_lastResult_starts (f := f) hruns hlast
  generalize r.results ++ [m.resultWith cycles] = rs at hstarts ⊢
  intro e unit quiet ended starts
  have hn : e.NearFits := State.evaluate_nearFits hnear rs
  have ho : e.OffUnlisted := State.evaluate_offUnlisted hoff rs
  have hstart {mode : Mode} {inactivity : Nat} {records : List EventRecord} (hm : mode = .active ∨ mode = .doze)
      (hf : s.abandonMeasurement.finishRound r.kind rs = s.roundEnded rs mode inactivity records)
      (hs : (s.roundEnded rs mode inactivity records).startsAtCompletion r.kind = true) :
      starts (ended mode inactivity records) :=
    exec_installs (hstarts hf hs) (by simp [Keeps, ended]) hm hvalid hn ho hsnap
  refine ⟨fun hk hm hdue hd => ?active, fun hk hm => ?returned, fun hk hm => ⟨fun w hw => ?wakes, fun hw hdue => ?due⟩⟩
  all_goals rw [hk] at hstart
  case active =>
    have := State.finishRound_active_stays hd
    rw [hm] at this
    exact hstart (.inl rfl) this hdue
  case returned =>
    have := State.finishRound_doze_stays (s := s) (rs := rs) (.inl hm)
    rw [hm] at this
    exact hstart (.inl rfl) this rfl
  case wakes => exact hstart (.inl rfl) (State.finishRound_doze_wakes hm hw) rfl
  case due =>
    have := State.finishRound_doze_stays (s := s) (rs := rs) (.inr hw)
    rw [hm] at this
    exact hstart (.inr rfl) this (by simp [State.startsAtCompletion, hdue])

end Sys2Proof.Machine
end

section
/-! SUPPORT. The rows of the mode table (2, R20): which modes a round, a conversion and each command lead to. -/

namespace Sys2Proof.Machine

/-! ## Rounds stay in ACTIVE and DOZE -/

theorem State.Scans.congr {s t : State} (h : s.Scans) (hm : t.scan.mode = s.scan.mode) : t.Scans := by
  simpa only [State.Scans, hm] using h

theorem State.Scans.inactivityCheck {s : State} (h : s.Scans) : s.inactivityCheck.Scans := by
  by_cases hd : dozesAt s.live (quietCount s.keys s.scan.inactivity)
  · rw [State.inactivityCheck_of_dozes hd]
    exact .inr rfl
  · rw [State.inactivityCheck_of_stays hd]
    exact h

theorem State.Scans.wakeKeyCheck {s : State} (h : s.Scans) : s.wakeKeyCheck.Scans := by
  unfold State.wakeKeyCheck
  (repeat' split)
  · exact .inl rfl
  · exact h
  · exact h

theorem State.Scans.finishRound {s : State} (h : s.Scans) (kind : RoundKind) (rs : List MeasResult) :
    (s.finishRound kind rs).Scans := by
  have he : (s.evaluated rs).Scans := h
  cases kind with
  | active => rw [State.finishRound_active]; exact he.inactivityCheck
  | doze => rw [State.finishRound_doze]; exact he.wakeKeyCheck

theorem State.Scans.installPending {s : State} (h : s.Scans) : s.installPending.Scans := by
  unfold State.installPending
  split
  next new _ =>
    obtain ⟨-, -, -, -, hscan⟩ := s.install_units new
    rw [State.Scans, hscan]
    obtain hm | hm := h <;> simp [hm]
  · exact h

theorem State.Scans.startRound {s : State} (h : s.Scans) : s.startRound.Scans := by
  have hi := h.installPending
  unfold State.startRound State.launchRound
  dsimp only
  split
  · exact (hi.congr (by simp)).finishRound _ _
  · exact hi.congr (by simp)

theorem State.Scans.receiveScan {s : State} (h : s.Scans) (x : MeasResult) : (s.receiveScan x).Scans := by
  unfold State.receiveScan
  split
  · exact h
  dsimp only
  split
  · exact h.congr (by simp)
  next r _ _ _ =>
    rw [State.completeRound_eq rfl]
    have hf := h.finishRound r.kind (r.results ++ [x])
    split
    · exact hf.startRound
    · exact hf

theorem State.Scans.leaveDoze {s : State} (h : s.Scans) : s.leaveDoze.Scans := by
  have ht : s.stopTimer.Scans := h
  unfold State.leaveDoze
  split
  · exact ht.startRound
  · exact ht

/-! ## Conversions and the round timer -/

/-- A trim result leaves the mode, or ends the trim in STOPPED (9, R156). -/
theorem State.receiveTrim_mode (s : State) (x : MeasResult) :
    (s.receiveTrim x).scan.mode = s.scan.mode ∨ (s.receiveTrim x).scan.mode = .stopped := by
  unfold State.receiveTrim
  (repeat' split)
  · exact .inl rfl
  · exact .inl (by simp)
  · exact .inr (by simp [State.completeTrim])

/-- A conversion leaves the mode, or goes on or ends with a round, or ends the trim (2, R20). -/
theorem State.Controlled.endConversion_mode {s : State} (h : s.Controlled) (cycles : Nat) :
    (s.endConversion cycles).scan.mode = s.scan.mode ∨ s.Scans ∧ (s.endConversion cycles).Scans ∨
      s.scan.mode = .trim ∧ (s.endConversion cycles).scan.mode = .stopped := by
  unfold State.endConversion
  split
  · exact .inl rfl
  next m hm =>
    dsimp only
    split
    · exact .inl rfl
    unfold State.endBurst
    split
    · exact .inl rfl
    cases hq : m.requester with
    | scan =>
      obtain ⟨hs, -⟩ := h.scan_round hm hq
      have ha : s.abandonMeasurement.Scans := hs
      exact .inr (.inl ⟨hs, ha.receiveScan _⟩)
    | trim =>
      obtain ⟨hmode, -⟩ := h.trim_search hm hq
      exact (s.abandonMeasurement.receiveTrim_mode _).imp_right fun hstop => .inr ⟨hmode, hstop⟩

/-- The round timer leaves the mode, or starts a round (2, R23). -/
theorem State.Controlled.expireRoundTimer_mode {s : State} (h : s.Controlled) :
    s.expireRoundTimer.scan.mode = s.scan.mode ∨ s.Scans ∧ s.expireRoundTimer.Scans := by
  by_cases ht : s.scan.timer = none
  · exact .inl (by rw [State.expireRoundTimer_of_stopped ht])
  by_cases hr : s.scan.round = none
  · have hs := h.scans_of_timer ht
    exact .inr ⟨hs, by rw [State.expireRoundTimer_of_free ht hr]; exact hs.startRound⟩
  · exact .inl (by rw [State.expireRoundTimer_of_round ht hr]; rfl)

/-! ## Commands -/

/-- Where a command that is taken may lead (2, R20). -/
inductive CommandRow : CommandName → Mode → Mode → Prop
  | same (n : CommandName) (m : Mode) : CommandRow n m m
  | start : CommandRow .start .stopped .active
  | stop {m : Mode} (h : m = .active ∨ m = .doze) : CommandRow .stop m .stopped
  | recal {m : Mode} (h : m = .active ∨ m = .doze) : CommandRow .recal .doze m
  | trim : CommandRow .trim .stopped .trim
  | doze : CommandRow .doze .active .doze
  | wake {m : Mode} (h : m = .active ∨ m = .doze) : CommandRow .wake .doze m
  | abort : CommandRow .abort .trim .stopped

theorem CommandRow.of_eq {n : CommandName} {m m' : Mode} (h : m' = m) : CommandRow n m m' := h ▸ .same n m'

theorem State.Controlled.takeStart_row {s : State} (h : s.Controlled) :
    CommandRow .start s.scan.mode s.takeStart.scan.mode := by
  unfold State.takeStart
  split
  · exact .of_eq (by simp)
  next hmode =>
    have hmode : s.scan.mode = .stopped := by simpa using hmode
    obtain ⟨-, -, -, -, -, -, hsnap⟩ := (State.controlled_of_stopped hmode).1 h
    split
    · exact .of_eq (by simp)
    next hlist =>
      obtain ⟨c, rest, hl⟩ := List.exists_cons_of_ne_nil hlist
      rw [State.startRound_active (c := c) (rest := rest) (by simpa) (by simp) (by simpa [State.live] using hl), hmode]
      simpa using CommandRow.start

theorem State.takeCommit_mode (s : State) : s.takeCommit.scan.mode = s.scan.mode := by
  unfold State.takeCommit
  (repeat' split)
  · simp
  · simp
  next hmode =>
    obtain ⟨-, -, -, -, hscan⟩ := s.install_units s.store.staging
    rw [hscan, if_neg (by simp [hmode])]
  · simp

theorem State.takeRecal_row (s : State) : CommandRow .recal s.scan.mode s.takeRecal.scan.mode := by
  unfold State.takeRecal
  (repeat' split)
  · exact .of_eq (by simp)
  · exact .of_eq (by simp)
  next targets _ _ =>
    unfold State.recalKeys
    split
    · exact .of_eq (by simp)
    · exact .of_eq (by simp)
    · exact .of_eq (by simp)
    next hmode =>
      rw [hmode]
      exact .recal (State.Scans.leaveDoze (.inl (by simp)))

theorem State.takeWake_row (s : State) : CommandRow .wake s.scan.mode s.takeWake.scan.mode := by
  unfold State.takeWake
  split
  · exact .of_eq (by simp)
  next hmode =>
    rw [show s.scan.mode = .doze by simpa using hmode]
    exact .wake (State.Scans.leaveDoze (.inl (by simp)))

/-- A command that is taken changes the mode by its rows of the table. -/
theorem State.Controlled.takeCommand_row {s : State} (h : s.Controlled) (n : CommandName) :
    CommandRow n s.scan.mode (s.takeCommand n).scan.mode := by
  cases n with
  | start => exact h.takeStart_row
  | commit => exact .of_eq s.takeCommit_mode
  | recal => exact s.takeRecal_row
  | wake => exact s.takeWake_row
  | flush => exact .of_eq (by simp [State.takeCommand])
  | reset => exact .of_eq (by simp [State.takeCommand])
  | stop =>
    simp only [State.takeCommand, State.takeStop]
    split
    next hmode => simpa using CommandRow.stop hmode
    · exact .of_eq (by simp)
  | trim =>
    simp only [State.takeCommand, State.takeTrim]
    (repeat' split)
    · exact .of_eq (by simp)
    · exact .of_eq (by simp)
    next hmode _ =>
      rw [show s.scan.mode = .stopped by simpa using hmode]
      simpa using CommandRow.trim
  | doze =>
    simp only [State.takeCommand, State.takeDoze]
    split
    · exact .of_eq (by simp)
    next hok =>
      rw [show s.scan.mode = .active by by_contra hm; exact hok (.inl hm)]
      simpa using CommandRow.doze
  | abort =>
    simp only [State.takeCommand, State.takeAbort]
    split
    · exact .of_eq (by simp)
    · exact .of_eq (by simp)
    · exact .of_eq (by simp)
    next hw =>
      rw [h.trim_of_work hw]
      simpa [State.cancelTrim] using CommandRow.abort

/-! ## The table -/

theorem CommandRow.modeRow {n : CommandName} {old new : Mode} (h : CommandRow n old new) {i : Instr} {pointer : Byte}
    (hi : commandCodeOf i pointer = some n.code) : modeRow i pointer old new := by
  cases h with
  | same => exact .inl rfl
  | start => exact .inr (.inr hi)
  | trim => exact .inr (.inr hi)
  | doze => exact .inr (.inr (.inl hi))
  | abort => exact .inr (.inr (.inl hi))
  | stop hm => obtain rfl | rfl := hm <;> exact .inr (.inr hi)
  | recal hm =>
    obtain rfl | rfl := hm
    · exact .inr (.inr (.inr (.inl hi)))
    · exact .inl rfl
  | wake hm =>
    obtain rfl | rfl := hm
    · exact .inr (.inr (.inl hi))
    · exact .inl rfl

/-- An event that ends a measurement or starts a round may take ACTIVE and DOZE to each other. -/
theorem modeRow_of_scans {i : Instr} {pointer : Byte} {old new : Mode} (hi : isScanEvent i = true)
    (ho : old = .active ∨ old = .doze) (hn : new = .active ∨ new = .doze) : modeRow i pointer old new := by
  obtain rfl | rfl := ho <;> obtain rfl | rfl := hn
  · exact .inl rfl
  · exact .inr (.inr (.inr hi))
  · exact .inr (.inr (.inr (.inr hi)))
  · exact .inl rfl

/-- Settles O60: every way an event changes the workings changes the mode by a row of the table. -/
theorem modeChangesByTable : Obligations.ModeChangesByTable := by
  intro s t i hs hexec
  have mode {u v : State} (h : u.workings = v.workings) : u.scan.mode = v.scan.mode := congrArg Workings.mode h
  cases exec_workings hexec with
  | unchanged ht => exact .inl (mode ht).symm
  | command u n hu hi _ ht =>
    rw [mode ht, ← mode hu]
    exact ((hs.congr hu).takeCommand_row n).modeRow hi
  | conversion u cycles hu hi ht =>
    rw [mode ht, ← mode hu]
    obtain h | ⟨ho, hn⟩ | ⟨ho, hn⟩ := (hs.congr hu).endConversion_mode cycles
    · exact .inl h.symm
    · exact modeRow_of_scans (by rw [hi]; rfl) ho hn
    · rw [ho, hn]
      exact .inr (.inr (.inr ⟨cycles, hi⟩))
  | roundTimer u hu hi ht =>
    rw [mode ht, ← mode hu]
    obtain h | ⟨ho, hn⟩ := (hs.congr hu).expireRoundTimer_mode
    · exact .inl h.symm
    · exact modeRow_of_scans (by rw [hi]; rfl) ho hn
  | warmReset u _ hi ht => exact .inr (.inl ⟨by rw [hi]; rfl, mode ht⟩)
  | powerOn hi ht => exact .inr (.inl ⟨hi, mode ht⟩)

end Sys2Proof.Machine
end

section
/-! SUPPORT. How one event changes a key and the live copy it stands under: the inversion that the invariants of the
keys are derived from (3, R38 to R60; 4, R73; 8, R143; 9, R156). -/

namespace Sys2Proof.Machine

/-! ## Installs, case by case -/

/-- The key of a channel at an install (8, R143): off the list it enters OFF; new to it, or with other measurement
fields, it enters CAL; else only its counters are cleared, or it leaves a touch for IDLE. -/
inductive InstallMove (old new : Configuration) (c : Channel) (k : KeyRecord) : KeyRecord → Prop
  | removed (hn : new.listed c = false) : InstallMove old new c k k.atOff
  | calibrates (hn : new.listed c = true) : InstallMove old new c k k.atCal
  | stays {k' : KeyRecord} (hl : new.listed c = old.listed c)
      (hm : old.listed c = true → measurementChanged old.channels[c] new.channels[c] = false)
      (hk : k' = k ∨ k' = { k with debounce := 0, release := 0 } ∨ k.state.handThere = true ∧ k' = k.atIdle) :
      InstallMove old new c k k'

theorem installKey_move (old new : Configuration) (c : Channel) (k : KeyRecord) :
    InstallMove old new c k (installKey old new c k).1 := by
  rw [installKey_key]
  cases hl : old.listed c <;> cases hn : new.listed c <;> simp only [installCase, hl, hn, Bool.false_eq_true,
    reduceCtorEq, if_true, if_false]
  · exact .stays (by rw [hl, hn]) (by simp [hl]) (.inl rfl)
  · exact .calibrates hn
  · exact .removed hn
  cases hm : measurementChanged old.channels[c] new.channels[c] <;> simp only [Bool.false_eq_true, if_true, if_false]
  case true => exact .calibrates hn
  have stays {k' : KeyRecord} := InstallMove.stays (k := k) (k' := k') (by rw [hl, hn]) fun _ => hm
  cases groupingChanged old new c <;> simp only [Bool.false_eq_true, if_true, if_false]
  case true =>
    split
    next hk => exact stays (.inr (.inr ⟨by obtain h | h | h := hk <;> rw [h] <;> rfl, rfl⟩))
    · exact stays (.inr (.inl rfl))
  cases detectionChanged old.channels[c] new.channels[c]
  · exact stays (.inl rfl)
  · exact stays (.inr (.inl rfl))

/-! ## Arbitrations, key by key -/

/-- An arbitration leaves a key, or moves a pressed or suppressed one between these two states (5, R84 to R86). -/
def ArbitratedTo (k k' : KeyRecord) : Prop :=
  k' = k ∨ (k.state = .pressed ∨ k.state = .suppressed) ∧ ∃ st, (st = .pressed ∨ st = .suppressed) ∧ k' = k.enter st

theorem suppress_arbitrated {cs : List Channel} {keys : Vector KeyRecord 24}
    (h : ∀ c ∈ cs, keys[c].state = .pressed) (c : Channel) : ArbitratedTo keys[c] (suppress cs keys)[c] := by
  simp only [suppress, Fin.getElem_fin, getElem_tab]
  split
  next hc => exact .inr ⟨.inl (h c (by simpa using hc)), .suppressed, .inr rfl, rfl⟩
  · exact .inl rfl

theorem arbitrate_arbitrated (members : List Channel) (prior keys : Vector KeyRecord 24) (c : Channel) :
    ArbitratedTo keys[c] (arbitrate members prior keys)[c] := by
  have hpressed : ∀ d ∈ membersIn .pressed members keys, keys[d].state = .pressed := by simp [membersIn]
  unfold arbitrate
  dsimp only
  split
  · exact suppress_arbitrated (fun d hd => hpressed d (List.mem_of_mem_filter hd)) c
  split
  · exact suppress_arbitrated
      (fun d hd => hpressed d (List.mem_of_mem_filter (List.mem_of_mem_filter hd))) c
  split
  next raised hr =>
    have hraised : keys[raised].state = .suppressed := by
      have := strongest_mem hr
      simp_all [membersIn]
    simp only [Fin.getElem_fin, getElem_put]
    split
    next hc =>
      obtain rfl : c = raised := hc
      exact .inr ⟨.inr hraised, .pressed, .inl rfl, rfl⟩
    · exact .inl rfl
  · exact .inl rfl

theorem groupKeys_arbitrated (cfg : Configuration) (prior keys : Vector KeyRecord 24) (g : GroupId) (c : Channel) :
    ArbitratedTo keys[c] (groupKeys cfg prior keys g)[c] := by
  unfold groupKeys
  split
  · exact arbitrate_arbitrated _ _ _ _
  all_goals exact .inl rfl

/-! ## The moves of a key -/

/-- One way the key of channel `c` changes, with the live copy before and after. An evaluation steps keys with results
that `good` holds of. -/
inductive KeyMove (good : Configuration → MeasResult → Prop) (c : Channel) :
    Configuration × KeyRecord → Configuration × KeyRecord → Prop
  | measured {cfg : Configuration} {k : KeyRecord} {r : MeasResult} (hr : good cfg r) (hc : r.channel = c) :
      KeyMove good c (cfg, k) (cfg, (keyStage cfg r k).1)
  | arbitrated {cfg : Configuration} {k k' : KeyRecord} (h : ArbitratedTo k k') : KeyMove good c (cfg, k) (cfg, k')
  | released {cfg : Configuration} {k : KeyRecord} (hk : k.state.handThere = true) :
      KeyMove good c (cfg, k) (cfg, k.atIdle)
  | restarted {cfg : Configuration} {k : KeyRecord} (hk : k.state = .cal) :
      KeyMove good c (cfg, k) (cfg, { k with acc := Accumulator.empty })
  | calibrates {cfg : Configuration} {k : KeyRecord} (hc : cfg.listed c = true) : KeyMove good c (cfg, k) (cfg, k.atCal)
  | searched {cfg : Configuration} {k : KeyRecord} (x : TrimStatus) :
      KeyMove good c (cfg, k) (cfg, { k with trimStatus := x })
  | trimmed {cfg : Configuration} {k : KeyRecord} (t : TrimRun) : KeyMove good c (cfg, k) (t.writeInto cfg, k)
  | installed {old new : Configuration} {k k' : KeyRecord} (h : InstallMove old new c k k') :
      KeyMove good c (old, k) (new, k')
  | warmReset {cfg : Configuration} {k : KeyRecord} : KeyMove good c (cfg, k) (cfg, warmKey (cfg.listed c) k)
  | powerOn {cfg : Configuration} {k : KeyRecord} :
      KeyMove good c (cfg, k) (Configuration.default, KeyRecord.powerOn)

/-- Every key of `t` comes from that of `s` by moves, one after another. -/
def KeyMoves (good : Configuration → MeasResult → Prop) (s t : State) : Prop :=
  ∀ c : Channel, Relation.ReflTransGen (KeyMove good c) (s.live, s.keys[c]) (t.live, t.keys[c])

section

variable {good : Configuration → MeasResult → Prop} {s t u : State}

theorem KeyMoves.of_eq (hl : t.live = s.live) (hk : t.keys = s.keys) : KeyMoves good s t := by
  intro c
  rw [hl, hk]

theorem KeyMoves.of_workings (h : t.workings = s.workings) : KeyMoves good s t := by
  obtain ⟨hl, -, -, -, -, -, -, hk, -⟩ := State.workings_eq_iff.1 h
  exact .of_eq hl hk

theorem KeyMoves.trans (h : KeyMoves good s t) (h' : KeyMoves good t u) : KeyMoves good s u :=
  fun c => (h c).trans (h' c)

theorem KeyMoves.then_eq (h : KeyMoves good s t) (hl : u.live = t.live) (hk : u.keys = t.keys) : KeyMoves good s u :=
  h.trans (.of_eq hl hk)

/-- What the moves keep, key by key, holds after them. -/
theorem KeyMoves.invariant {P : Channel → Configuration × KeyRecord → Prop}
    (hP : ∀ {c : Channel} {x y : Configuration × KeyRecord}, KeyMove good c x y → P c x → P c y)
    (h : KeyMoves good s t) (c : Channel) (hs : P c (s.live, s.keys[c])) : P c (t.live, t.keys[c]) := by
  have h := h c
  generalize (s.live, s.keys[c]) = x, (t.live, t.keys[c]) = y at h hs ⊢
  induction h with
  | refl => exact hs
  | tail _ hmove ih => exact hP hmove ih

/-! ## Evaluations and rounds -/

theorem stageKeys_moves (cfg : Configuration) (prior keys : Vector KeyRecord 24) (c : Channel) :
    Relation.ReflTransGen (KeyMove good c) (cfg, keys[c]) (cfg, (stageKeys cfg prior keys)[c]) := by
  unfold stageKeys
  induction allGroups generalizing keys with
  | nil => exact .refl
  | cons g rest ih =>
    exact .head (.arbitrated (groupKeys_arbitrated cfg prior keys g c)) (ih (groupKeys cfg prior keys g))

theorem steppedKeys_moves {cfg : Configuration} {rs : List MeasResult} (h : ∀ r ∈ rs, good cfg r)
    (keys : Vector KeyRecord 24) (c : Channel) :
    Relation.ReflTransGen (KeyMove good c) (cfg, keys[c]) (cfg, (steppedKeys cfg rs keys)[c]) := by
  simp only [steppedKeys, steppedKey, Fin.getElem_fin, getElem_tab]
  split
  · exact .refl
  next r hr =>
    have hc : r.channel = c := by simpa using List.find?_some hr
    exact .single (.measured (h r (List.mem_of_find?_eq_some hr)) hc)

theorem State.evaluate_keys (s : State) (rs : List MeasResult) :
    (s.evaluate rs).keys = stageKeys s.live s.keys (steppedKeys s.live rs s.keys) := by
  simp [State.evaluate]

theorem KeyMoves.evaluate {rs : List MeasResult} (h : ∀ r ∈ rs, good s.live r) : KeyMoves good s (s.evaluate rs) := by
  intro c
  rw [State.live_of_store (s := s) (by simp), State.evaluate_keys]
  exact (steppedKeys_moves h _ c).trans (stageKeys_moves _ _ _ c)

theorem State.finishRound_keys (s : State) (kind : RoundKind) (rs : List MeasResult) :
    (s.finishRound kind rs).keys = (s.evaluate rs).keys := by
  cases kind with
  | active => simp [State.finishRound_active, State.evaluated]
  | doze => simp [State.finishRound_doze, State.evaluated]

@[simp] theorem State.finishRound_live (s : State) (kind : RoundKind) (rs : List MeasResult) :
    (s.finishRound kind rs).live = s.live :=
  State.live_of_store (by simp)

theorem KeyMoves.finishRound {rs : List MeasResult} (h : ∀ r ∈ rs, good s.live r) (kind : RoundKind) :
    KeyMoves good s (s.finishRound kind rs) :=
  (KeyMoves.evaluate h).then_eq (State.live_of_store (by simp)) (s.finishRound_keys kind rs)

@[simp] theorem State.install_live (s : State) (new : Configuration) : (s.install new).live = new := by
  rw [State.live, State.install_store]

theorem KeyMoves.install (new : Configuration) : KeyMoves good s (s.install new) := by
  intro c
  rw [State.install_live, State.install_keys]
  exact .single (.installed (installKey_move _ _ _ _))

theorem KeyMoves.installPending : KeyMoves good s s.installPending := by
  unfold State.installPending
  split
  · exact .install _
  · exact .of_eq rfl rfl

theorem KeyMoves.launchRound : KeyMoves good s s.launchRound := by
  unfold State.launchRound
  dsimp only
  split
  · refine KeyMoves.trans ?_ (KeyMoves.finishRound (by simp) _)
    exact .of_eq rfl rfl
  · exact .of_eq (State.live_of_store (by simp)) (by simp)

theorem KeyMoves.startRound : KeyMoves good s s.startRound :=
  KeyMoves.installPending.trans .launchRound

theorem KeyMoves.completeRound {rs : List MeasResult} (h : ∀ r ∈ rs, good s.live r) (kind : RoundKind) :
    KeyMoves good s (s.completeRound kind rs) := by
  rw [State.completeRound_eq rfl]
  split
  · exact (KeyMoves.finishRound h kind).trans .startRound
  · exact .finishRound h kind

/-- A result that the round's earlier ones are evaluated with. -/
theorem KeyMoves.receiveScan {x : MeasResult}
    (hround : ∀ r, s.scan.round = some r → ∀ y ∈ r.results, good s.live y) (hx : good s.live x) :
    KeyMoves good s (s.receiveScan x) := by
  unfold State.receiveScan
  split
  · exact .of_eq rfl rfl
  next r hr =>
    dsimp only
    split
    · exact .of_eq rfl rfl
    · refine .completeRound (fun y hy => ?_) _
      obtain hy | hy := List.mem_append.1 hy
      · exact hround r hr y hy
      · rwa [List.mem_singleton.1 hy]

theorem KeyMoves.expireRoundTimer : KeyMoves good s s.expireRoundTimer := by
  unfold State.expireRoundTimer
  (repeat' split)
  · exact .of_eq rfl rfl
  · exact .startRound
  · exact .of_eq rfl rfl

/-! ## Forced transitions -/

theorem KeyMoves.forceKeys {cs : List Channel} {move : Channel → KeyRecord → KeyOutcome}
    (h : ∀ c ∈ cs, Relation.ReflTransGen (KeyMove good c) (s.live, s.keys[c]) (s.live, (move c s.keys[c]).1)) :
    KeyMoves good s (s.forceKeys cs move) := by
  intro c
  have hk : (s.forceKeys cs move).keys[c] = if cs.contains c then (move c s.keys[c]).1 else s.keys[c] := by simp
  rw [State.live_of_store (s := s) (by simp), hk]
  split
  next hc => exact h c (by simpa using hc)
  · exact .refl

/-- The groups follow a forced transition; the keys and the live copy stay as it leaves them. -/
theorem KeyMoves.followGroups (h : KeyMoves good s t) (cause : ReleaseCause) : KeyMoves good s (t.followGroups cause) :=
  h.then_eq (State.live_of_store (by simp)) (by simp)

theorem KeyMoves.releaseForStop : KeyMoves good s s.releaseForStop := by
  refine KeyMoves.followGroups (.forceKeys fun c _ => ?_) _
  rw [stopKey_eq]
  dsimp only
  (repeat' split)
  next hk => exact .single (.restarted hk)
  next hk => exact .single (.released hk)
  · exact .refl

theorem KeyMoves.releaseForDoze : KeyMoves good s s.releaseForDoze := by
  refine KeyMoves.followGroups (.forceKeys fun c _ => ?_) _
  rw [releaseKey_eq]
  dsimp only
  split
  next hk => exact .single (.released hk)
  · exact .refl

theorem KeyMoves.sendToCal {targets : List Channel} (h : ∀ c ∈ targets, s.live.listed c = true) :
    KeyMoves good s (s.sendToCal targets) := by
  refine KeyMoves.followGroups (.forceKeys fun c hc => ?_) _
  rw [recalKey, forced_to_cal]
  exact .single (.calibrates (h c hc))

/-- The targets of RECAL are listed (4, R72). -/
theorem recalTargets_listed {cfg : Configuration} {arg : Byte} {targets : List Channel}
    (h : recalTargets cfg arg = some targets) : ∀ c ∈ targets, cfg.listed c = true := by
  unfold recalTargets at h
  (repeat' split at h) <;> simp only [Option.some.injEq, reduceCtorEq] at h <;> subst h
  · exact fun c => (listed_iff_mem cfg c).2
  next c _ hc =>
    intro d hd
    rwa [List.mem_singleton.1 hd]
  · simp

/-! ## The trim search -/

@[simp] theorem TrimRun.writeInto_scanList (t : TrimRun) (cfg : Configuration) :
    (t.writeInto cfg).scanList = cfg.scanList := rfl

@[simp] theorem TrimRun.writeInto_listed (t : TrimRun) (cfg : Configuration) (c : Channel) :
    (t.writeInto cfg).listed c = cfg.listed c := rfl

/-- The key of a searched channel with the status found for it (9, R156, step 2). -/
def TrimRun.mark (run : TrimRun) (c : Channel) (k : KeyRecord) : KeyRecord :=
  if run.channels.contains c then { k with trimStatus := run.found[c] } else k

/-- The keys after a trim: marked, and the listed ones sent to CAL but for those in FAULT (9, R156). -/
theorem State.completeTrim_keys (s : State) (run : TrimRun) (c : Channel) :
    (s.completeTrim run).keys[c] =
      if s.live.listed c = true then (trimEndKey c (run.mark c s.keys[c])).1 else run.mark c s.keys[c] := by
  simp [State.completeTrim, TrimRun.mark, State.live, Configuration.listed]

theorem State.completeTrim_live (s : State) (run : TrimRun) : (s.completeTrim run).live = run.writeInto s.live := by
  simp [State.completeTrim, State.live]

/-- The trim completion writes the live trims, marks the keys and forces them (9, R156). -/
theorem KeyMoves.completeTrim (run : TrimRun) : KeyMoves good s (s.completeTrim run) := by
  intro c
  rw [State.completeTrim_live, State.completeTrim_keys]
  have hmark : Relation.ReflTransGen (KeyMove good c) (s.live, s.keys[c])
      (run.writeInto s.live, run.mark c s.keys[c]) := by
    refine .head (.trimmed run) ?_
    unfold TrimRun.mark
    split
    · exact .single (.searched _)
    · exact .refl
  split
  next hl =>
    refine hmark.trans ?_
    unfold trimEndKey
    split
    · exact .refl
    · rw [moveKey_cal]
      exact .single (.calibrates hl)
  · exact hmark

theorem KeyMoves.requestTrim (run : TrimRun) : KeyMoves good s (s.requestTrim run) :=
  .of_eq (State.live_of_store (by simp)) (by simp)

theorem KeyMoves.receiveTrim (x : MeasResult) : KeyMoves good s (s.receiveTrim x) := by
  unfold State.receiveTrim
  (repeat' split)
  · exact .of_eq rfl rfl
  · exact .requestTrim _
  · exact .completeTrim _

/-! ## Conversions and commands -/

/-- The result that a burst with the counts given hands over (1, R3, R5). -/
abbrev Measurement.handed (m : Measurement) (counts : List Nat) : MeasResult :=
  ⟨m.channel, burstVerdict m counts, burstMean counts⟩

theorem KeyMoves.endConversion (cycles : Nat)
    (hround : ∀ r, s.scan.round = some r → ∀ y ∈ r.results, good s.live y)
    (hnew : ∀ m, s.engine.current = some m → good s.live (m.handed (m.countsWith cycles))) :
    KeyMoves good s (s.endConversion cycles) := by
  cases hm : s.engine.current with
  | none => exact .of_eq (by simp [State.endConversion, hm]) (by simp [State.endConversion, hm])
  | some m =>
    rw [State.endConversion_eq hm]
    unfold State.endBurst State.deliver
    (repeat' split)
    · exact .of_eq rfl rfl
    · exact .of_eq rfl rfl
    · exact (KeyMoves.of_eq rfl rfl).trans (.receiveScan (s := s.abandonMeasurement) hround (hnew m hm))
    · exact (KeyMoves.of_eq rfl rfl).trans (.receiveTrim (s := s.abandonMeasurement) _)

theorem KeyMoves.leaveDoze : KeyMoves good s s.leaveDoze := by
  unfold State.leaveDoze
  split
  · exact (KeyMoves.of_eq rfl rfl).trans (.startRound (s := s.stopTimer))
  · exact .of_eq rfl rfl

theorem KeyMoves.recalKeys {targets : List Channel} (h : ∀ c ∈ targets, s.live.listed c = true) :
    KeyMoves good s (s.recalKeys targets) := by
  have hcal : KeyMoves good s (s.sendToCal targets) := .sendToCal h
  unfold State.recalKeys
  split
  · exact hcal.then_eq (State.live_of_store (by simp)) (by simp)
  · exact hcal.then_eq (State.live_of_store (by simp)) (by simp)
  · exact hcal.then_eq (State.live_of_store (by simp)) (by simp)
  · exact (hcal.then_eq (State.live_of_store (by simp)) (by simp)).trans .leaveDoze

/-- A command that is taken (7, section 7.3). -/
theorem KeyMoves.takeCommand (s : State) (n : CommandName) : KeyMoves good s (s.takeCommand n) := by
  cases n with
  | start =>
    simp only [State.takeCommand, State.takeStart]
    (repeat' split)
    · exact .of_workings (by simp)
    · exact .of_workings (by simp)
    · exact (KeyMoves.of_eq (State.live_of_store (by simp)) (by simp)).trans .startRound
  | stop =>
    simp only [State.takeCommand, State.takeStop]
    split
    · have hrelease : KeyMoves good s.abandonRound.stopTimer s.abandonRound.stopTimer.releaseForStop := .releaseForStop
      exact ((KeyMoves.of_eq rfl rfl).trans hrelease).then_eq (State.live_of_store (by simp)) (by simp)
    · exact .of_workings (by simp)
  | commit =>
    simp only [State.takeCommand, State.takeCommit]
    (repeat' split)
    · exact .of_workings (by simp)
    · exact .of_workings (by simp)
    · exact .install _
    · exact .of_eq rfl rfl
  | recal =>
    simp only [State.takeCommand, State.takeRecal]
    split
    · exact .of_workings (by simp)
    · exact .of_workings (by simp)
    next h => exact .recalKeys (recalTargets_listed h)
  | trim =>
    simp only [State.takeCommand, State.takeTrim]
    (repeat' split)
    · exact .of_workings (by simp)
    · exact .of_workings (by simp)
    · exact .of_eq (State.live_of_store (by simp)) (by simp)
  | doze =>
    simp only [State.takeCommand, State.takeDoze]
    split
    · exact .of_workings (by simp)
    · have hrelease : KeyMoves good s.abandonRound.setDozeTimer s.abandonRound.setDozeTimer.releaseForDoze :=
        .releaseForDoze
      exact ((KeyMoves.of_eq rfl rfl).trans hrelease).then_eq (State.live_of_store (by simp)) (by simp)
  | wake =>
    simp only [State.takeCommand, State.takeWake]
    split
    · exact .of_workings (by simp)
    · exact (KeyMoves.of_eq (State.live_of_store (by simp)) (by simp)).trans .leaveDoze
  | flush => exact .of_workings s.takeFlush_workings
  | abort =>
    simp only [State.takeCommand, State.takeAbort]
    split
    · exact .of_workings (by simp)
    · exact .of_eq (by simp [State.live]) (by simp)
    · exact .of_eq (State.live_of_store (by simp)) (by simp)
    · exact .of_eq (State.live_of_store (by simp)) (by simp)
  | reset => exact .of_workings s.takeReset_workings

/-! ## Events -/

theorem KeyMoves.warmReset (s : State) : KeyMoves good s s.warmReset := by
  intro c
  rw [State.warmReset_keys]
  exact .single .warmReset

theorem State.reset_keys (c : Channel) : State.reset.keys[c] = KeyRecord.powerOn := by
  simp [State.reset]

theorem KeyMoves.reset (s : State) : KeyMoves good s State.reset := by
  intro c
  rw [State.reset_keys]
  exact .single .powerOn

/-- Every event moves the keys; the results it evaluates are those of the round in flight and the one handed over. -/
theorem KeyMoves.workingsStep {i : Instr} (h : WorkingsStep i s t)
    (hround : ∀ r, s.scan.round = some r → ∀ y ∈ r.results, good s.live y)
    (hnew : ∀ m cycles, s.engine.current = some m → good s.live (m.handed (m.countsWith cycles))) :
    KeyMoves good s t := by
  cases h with
  | unchanged ht => exact .of_workings ht
  | command u n hu _ _ ht => exact ((KeyMoves.of_workings hu).trans (.takeCommand u n)).trans (.of_workings ht)
  | conversion u cycles hu _ ht =>
    obtain ⟨hl, -, he, -, hr, -⟩ := State.workings_eq_iff.1 hu
    refine ((KeyMoves.of_workings hu).trans (.endConversion cycles ?_ ?_)).trans (.of_workings ht)
    · rwa [hr, hl]
    · rw [he, hl]
      exact fun m => hnew m cycles
  | roundTimer u hu _ ht => exact ((KeyMoves.of_workings hu).trans .expireRoundTimer).trans (.of_workings ht)
  | warmReset u hu _ ht => exact ((KeyMoves.of_workings hu).trans (.warmReset u)).trans (.of_workings ht)
  | powerOn _ ht => exact (KeyMoves.reset s).trans (.of_workings ht)

end

end Sys2Proof.Machine
end

section
/-! SUPPORT. Every event keeps OFF on the unlisted channels, near flags that fit the states, and baselines in use between
floor and ceiling (3, R38, R39; 4, R67). -/

namespace Sys2Proof.Machine

/-! ## OFF and the near flag (3, R38, R39) -/

theorem KeyRecord.atIdle_nearFits (k : KeyRecord) : k.atIdle.NearFits := by
  simp [KeyRecord.atIdle, KeyRecord.NearFits]

theorem KeyRecord.atCal_nearFits (k : KeyRecord) : k.atCal.NearFits := by
  simp [KeyRecord.atCal, KeyRecord.NearFits]

theorem KeyRecord.atOff_nearFits (k : KeyRecord) : k.atOff.NearFits := by
  simp [KeyRecord.atOff, KeyRecord.atCal, KeyRecord.NearFits]

theorem warmKey_nearFits (listed : Bool) (k : KeyRecord) : (warmKey listed k).NearFits := by
  cases listed <;> simp [warmKey, KeyRecord.NearFits, KeyRecord.powerOn]

theorem KeyRecord.powerOn_nearFits : KeyRecord.powerOn.NearFits := warmKey_nearFits false KeyRecord.powerOn

theorem warmKey_off_iff (listed : Bool) (k : KeyRecord) : (warmKey listed k).state = .off ↔ listed = false := by
  cases listed <;> simp [warmKey]

theorem default_unlisted (c : Channel) : Configuration.default.listed c = false := rfl

theorem KeyState.ne_off_of_handThere {st : KeyState} (h : st.handThere = true) : st ≠ .off := by
  rintro rfl
  cases h

theorem ArbitratedTo.fitsAfter {k k' : KeyRecord} (h : ArbitratedTo k k') : k.FitsAfter k' := by
  obtain rfl | ⟨hk, st, hst, rfl⟩ := h
  · exact .refl k'
  · exact enter_fitsAfter hst (by obtain hk | hk := hk <;> rw [hk] <;> decide)

theorem InstallMove.nearFits {old new : Configuration} {c : Channel} {k k' : KeyRecord}
    (h : InstallMove old new c k k') (hn : k.NearFits) : k'.NearFits := by
  cases h with
  | removed => exact k.atOff_nearFits
  | calibrates => exact k.atCal_nearFits
  | stays _ _ hk =>
    obtain rfl | rfl | ⟨-, rfl⟩ := hk
    · exact hn
    · exact hn
    · exact k.atIdle_nearFits

theorem InstallMove.off_iff {old new : Configuration} {c : Channel} {k k' : KeyRecord}
    (h : InstallMove old new c k k') (ho : k.state = .off ↔ old.listed c = false) :
    k'.state = .off ↔ new.listed c = false := by
  cases h with
  | removed hn => simp [KeyRecord.atOff, hn]
  | calibrates hn => simp [KeyRecord.atCal, hn]
  | stays hl _ hk =>
    rw [hl, ← ho]
    obtain rfl | rfl | ⟨hhand, rfl⟩ := hk
    · rfl
    · rfl
    · simp [KeyRecord.atIdle, KeyState.ne_off_of_handThere hhand]

section

variable {good : Configuration → MeasResult → Prop} {c : Channel} {x y : Configuration × KeyRecord}

/-- A move keeps the key in OFF exactly while its channel is unlisted (3, R38). -/
theorem KeyMove.off_iff (h : KeyMove good c x y) (hx : x.2.state = .off ↔ x.1.listed c = false) :
    y.2.state = .off ↔ y.1.listed c = false := by
  cases h with
  | measured => exact (keyStage_fitsAfter _ _ _).1.trans hx
  | arbitrated ha => exact ha.fitsAfter.1.trans hx
  | released hk => exact (iff_of_false (by simp [KeyRecord.atIdle]) (KeyState.ne_off_of_handThere hk)).trans hx
  | restarted => exact hx
  | calibrates hl => simp [KeyRecord.atCal, hl]
  | searched => exact hx
  | trimmed => exact hx
  | installed hi => exact hi.off_iff hx
  | warmReset => exact warmKey_off_iff _ _
  | powerOn => exact iff_of_true rfl (default_unlisted c)

/-- A move keeps the near flag fitting the state (3, R39). -/
theorem KeyMove.nearFits (h : KeyMove good c x y) (hx : x.2.NearFits) : y.2.NearFits := by
  cases h with
  | measured => exact (keyStage_fitsAfter _ _ _).2 hx
  | arbitrated ha => exact ha.fitsAfter.2 hx
  | released => exact KeyRecord.atIdle_nearFits _
  | restarted => exact hx
  | calibrates => exact KeyRecord.atCal_nearFits _
  | searched => exact hx
  | trimmed => exact hx
  | installed hi => exact hi.nearFits hx
  | warmReset => exact warmKey_nearFits _ _
  | powerOn => exact KeyRecord.powerOn_nearFits

variable {s t : State}

theorem KeyMoves.offUnlisted (h : KeyMoves good s t) (hs : s.OffUnlisted) : t.OffUnlisted :=
  fun c => h.invariant (P := fun c x => x.2.state = .off ↔ x.1.listed c = false) KeyMove.off_iff c (hs c)

theorem KeyMoves.nearFits (h : KeyMoves good s t) (hs : s.NearFits) : t.NearFits :=
  fun c => h.invariant (P := fun _ x => x.2.NearFits) KeyMove.nearFits c (hs c)

end

/-! ## Baselines through an evaluation (4, R67) -/

/-- From the floor up to below the ceiling. -/
abbrev InLimits (floor ceiling n : Nat) : Prop := floor ≤ n ∧ n < ceiling

/-- `State.BaselinesFit` of one key, between a floor and a ceiling: its baseline where it is in use, and the mean of the
samples of a calibration in progress. -/
def KeyRecord.BaselineFits (floor ceiling : Nat) (k : KeyRecord) : Prop :=
  (k.state.baselineInUse = true → InLimits floor ceiling k.baseline) ∧
  (k.state = .cal →
    k.acc.samples * floor ≤ k.acc.sum ∧ k.acc.sum + k.acc.samples ≤ k.acc.samples * ceiling)

section

variable {floor ceiling : Nat} {k k' : KeyRecord}

theorem KeyRecord.BaselineFits.of_same (h : k.BaselineFits floor ceiling) (hs : k'.state = k.state)
    (hb : k'.baseline = k.baseline) (ha : k'.acc = k.acc) : k'.BaselineFits floor ceiling := by
  simpa only [KeyRecord.BaselineFits, hs, hb, ha] using h

theorem KeyRecord.BaselineFits.of_inLimits (hs : k.state ≠ .cal) (hb : InLimits floor ceiling k.baseline) :
    k.BaselineFits floor ceiling :=
  ⟨fun _ => hb, fun h => absurd h hs⟩

/-- A key out of use and out of CAL has nothing to fit. -/
theorem KeyRecord.BaselineFits.of_idle (hs : k.state = .off ∨ k.state = .fault) : k.BaselineFits floor ceiling := by
  obtain hs | hs := hs <;> simp [KeyRecord.BaselineFits, hs, KeyState.baselineInUse, KeyState.handThere]

/-- An empty accumulator fits (4, R63). -/
theorem KeyRecord.BaselineFits.of_empty (hs : k.state = .cal) (ha : k.acc.samples = 0 ∧ k.acc.sum = 0) :
    k.BaselineFits floor ceiling := by
  simp [KeyRecord.BaselineFits, hs, ha, KeyState.baselineInUse, KeyState.handThere]

theorem KeyRecord.atCal_baselineFits (k : KeyRecord) : k.atCal.BaselineFits floor ceiling :=
  .of_empty rfl ⟨rfl, rfl⟩

theorem KeyRecord.BaselineFits.inLimits (h : k.BaselineFits floor ceiling) (hs : k.state.baselineInUse = true) :
    InLimits floor ceiling k.baseline :=
  h.1 hs

theorem moveKey_baseline (c : Channel) (st : KeyState) (k : KeyRecord) : (moveKey c st k).1.baseline = k.baseline := by
  cases st <;> cases h : k.near <;> simp [moveKey, KeyRecord.enter, h]

/-- A move to a state that uses the baseline needs it in its limits; CAL begins with an empty accumulator. -/
theorem moveKey_baselineFits (c : Channel) {st : KeyState}
    (hb : st.baselineInUse = true → InLimits floor ceiling k.baseline) :
    (moveKey c st k).1.BaselineFits floor ceiling := by
  by_cases hst : st = .cal
  · subst hst
    rw [moveKey_cal]
    exact k.atCal_baselineFits
  · refine ⟨fun hu => ?_, fun hc => absurd ((moveKey_state c st k).symm.trans hc) hst⟩
    rw [moveKey_baseline]
    exact hb (by rwa [moveKey_state] at hu)

theorem driftToward_inLimits {baseline mean : Nat} (hb : InLimits floor ceiling baseline)
    (hm : InLimits floor ceiling mean) (step : Nat) : InLimits floor ceiling (driftToward baseline mean step) := by
  unfold driftToward
  split <;> constructor <;> omega

theorem Accumulator.add_sum_samples (a : Accumulator) (mean : Nat) :
    (a.add mean).sum = a.sum + mean ∧ (a.add mean).samples = a.samples + 1 := ⟨rfl, rfl⟩

/-- A sample in its limits leaves the accumulator fitting. -/
theorem KeyRecord.BaselineFits.add {mean : Nat} (h : k.BaselineFits floor ceiling) (hs : k.state = .cal)
    (hm : InLimits floor ceiling mean) : { k with acc := k.acc.add mean }.BaselineFits floor ceiling := by
  obtain ⟨hlow, hhigh⟩ := h.2 hs
  obtain ⟨hsum, hsamples⟩ := k.acc.add_sum_samples mean
  refine ⟨fun hu => ?_, fun _ => ?_⟩
  · rw [show ({ k with acc := k.acc.add mean } : KeyRecord).state = .cal from hs] at hu
    cases hu
  · rw [hsum, hsamples, Nat.succ_mul, Nat.succ_mul]
    omega

/-- The mean of samples in their limits is in them too (4, R64). -/
theorem KeyRecord.BaselineFits.mean (h : k.BaselineFits floor ceiling) (hs : k.state = .cal)
    (hn : 0 < k.acc.samples) : InLimits floor ceiling (k.acc.sum / k.acc.samples) := by
  obtain ⟨hlow, hhigh⟩ := h.2 hs
  constructor
  · rw [Nat.le_div_iff_mul_le hn, Nat.mul_comm]
    exact hlow
  · rw [Nat.div_lt_iff_lt_mul hn, Nat.mul_comm]
    omega

theorem endAttempt_baselineFits (g : Globals) (c : Channel) (h : k.BaselineFits floor ceiling) (hs : k.state = .cal)
    (hn : 0 < k.acc.samples) : (endAttempt g c k).1.BaselineFits floor ceiling := by
  unfold endAttempt
  dsimp only
  (repeat' split)
  · exact moveKey_baselineFits c fun _ => h.mean hs hn
  · exact .of_empty hs ⟨rfl, rfl⟩
  · exact moveKey_baselineFits c fun hu => by cases hu

theorem calibrationSample_baselineFits (g : Globals) (c : Channel) {mean : Nat} (h : k.BaselineFits floor ceiling)
    (hs : k.state = .cal) (hm : InLimits floor ceiling mean) :
    (calibrationSample g c mean k).1.BaselineFits floor ceiling := by
  unfold calibrationSample
  dsimp only
  split
  · exact endAttempt_baselineFits g c (h.add hs hm) hs (Nat.succ_pos _)
  · exact h.add hs hm

section

/-! Each state's own step, on a key whose baseline is in its limits. -/

variable (hb : InLimits floor ceiling k.baseline)

include hb

theorem goUp_baselineFits (ch : ChannelConfig) (c : Channel) : (goUp ch c k).1.BaselineFits floor ceiling :=
  moveKey_baselineFits c fun _ => hb

theorem goDown_baselineFits (ch : ChannelConfig) (c : Channel) (d : Int) :
    (goDown ch c d k).1.BaselineFits floor ceiling :=
  moveKey_baselineFits c fun _ => hb

variable (hs : k.state ≠ .cal)

include hs

theorem driftStep_baselineFits (g : Globals) {mean : Nat} (hm : InLimits floor ceiling mean) :
    (driftStep g mean k).BaselineFits floor ceiling := by
  unfold driftStep
  split
  · exact .of_inLimits hs (driftToward_inLimits hb hm _)
  · exact .of_inLimits hs hb

theorem idleStep_baselineFits (g : Globals) (ch : ChannelConfig) (c : Channel) {mean : Nat} (d : Int)
    (hm : InLimits floor ceiling mean) : (idleStep g ch c mean d k).1.BaselineFits floor ceiling := by
  unfold idleStep quietStep
  (repeat' split)
  · exact goUp_baselineFits hb ch c
  · exact moveKey_baselineFits c fun _ => hb
  · exact .of_inLimits hs hm
  · exact driftStep_baselineFits (k := { k with negative := negativeAfter g d k }) hb hs g hm

theorem proxStep_baselineFits (ch : ChannelConfig) (c : Channel) (d : Int) :
    (proxStep ch c d k).1.BaselineFits floor ceiling := by
  unfold proxStep
  (repeat' split)
  · exact goUp_baselineFits hb ch c
  · exact .of_inLimits hs hb
  · exact moveKey_baselineFits c fun _ => hb

theorem detectStep_baselineFits (ch : ChannelConfig) (c : Channel) (d : Int) :
    (detectStep ch c d k).1.BaselineFits floor ceiling := by
  unfold detectStep
  dsimp only
  (repeat' split)
  · exact moveKey_baselineFits c fun _ => hb
  · exact .of_inLimits hs hb
  · exact goDown_baselineFits hb ch c d

theorem pressedStep_baselineFits (ch : ChannelConfig) (member : Bool) (c : Channel) (d : Int) :
    (pressedStep ch member c d k).1.BaselineFits floor ceiling := by
  unfold pressedStep
  dsimp only
  (repeat' split)
  · exact goDown_baselineFits (k := { k with release := _ }) hb ch c d
  · exact .of_inLimits hs hb
  · exact .of_inLimits hs hb

theorem suppressedStep_baselineFits (ch : ChannelConfig) (c : Channel) (d : Int) :
    (suppressedStep ch c d k).1.BaselineFits floor ceiling := by
  unfold suppressedStep
  split
  · exact goDown_baselineFits hb ch c d
  · exact .of_inLimits hs hb

end

theorem validStep_baselineFits (g : Globals) (ch : ChannelConfig) (member : Bool) (c : Channel) {mean : Nat}
    (h : k.BaselineFits floor ceiling) (hm : InLimits floor ceiling mean) :
    (validStep g ch member c mean k).1.BaselineFits floor ceiling := by
  have hb (hu : k.state.baselineInUse = true) : InLimits floor ceiling k.baseline := h.inLimits hu
  cases hk : k.state <;> rw [hk] at hb <;> simp only [validStep, hk]
  case off => exact h
  case fault => exact h
  case cal => exact calibrationSample_baselineFits g c (h.of_same hk.symm rfl rfl) rfl hm
  case idle => exact idleStep_baselineFits (by exact hb rfl) (by simp) g ch c _ hm
  case prox => exact proxStep_baselineFits (by exact hb rfl) (by simp) ch c _
  case detect => exact detectStep_baselineFits (by exact hb rfl) (by simp) ch c _
  case pressed => exact pressedStep_baselineFits (by exact hb rfl) (by simp) ch member c _
  case suppressed => exact suppressedStep_baselineFits (by exact hb rfl) (by simp) ch c _

theorem faultStep_baselineFits (g : Globals) (member : Bool) (c : Channel) (kind : FaultKind)
    (h : k.BaselineFits floor ceiling) : (faultStep g member c kind k).1.BaselineFits floor ceiling := by
  unfold faultStep
  dsimp only
  split
  · exact moveKey_baselineFits c fun hu => by cases hu
  · exact h.of_same rfl rfl rfl

theorem channelStep_baselineFits (g : Globals) (ch : ChannelConfig) (member : Bool) {r : MeasResult}
    (h : k.BaselineFits floor ceiling) (hr : r.verdict = .valid → InLimits floor ceiling r.mean) :
    (channelStep g ch member r k).1.BaselineFits floor ceiling := by
  unfold channelStep
  split
  · exact h
  split
  next hv => exact validStep_baselineFits g ch member r.channel h (hr hv)
  · exact h
  · exact faultStep_baselineFits g member r.channel .openCircuit h
  · exact faultStep_baselineFits g member r.channel .shorted h

theorem maxOnStep_baselineFits (ch : ChannelConfig) (member : Bool) (c : Channel) (h : k.BaselineFits floor ceiling) :
    (maxOnStep ch member c k).1.BaselineFits floor ceiling := by
  unfold maxOnStep
  dsimp only
  split
  · exact moveKey_baselineFits c fun hu => by cases hu
  · exact h.of_same rfl rfl rfl

/-- A VALID mean in its limits leaves the key fitting (4, R67). -/
theorem keyStage_baselineFits (cfg : Configuration) {r : MeasResult} (h : k.BaselineFits floor ceiling)
    (hr : r.verdict = .valid → InLimits floor ceiling r.mean) :
    (keyStage cfg r k).1.BaselineFits floor ceiling := by
  have hstep := channelStep_baselineFits cfg.globals cfg.channels[r.channel] (cfg.sliderMember r.channel) h hr
  unfold keyStage
  dsimp only
  split
  · exact maxOnStep_baselineFits _ _ _ hstep
  · exact hstep

theorem ArbitratedTo.baselineFits (ha : ArbitratedTo k k') (h : k.BaselineFits floor ceiling) :
    k'.BaselineFits floor ceiling := by
  obtain rfl | ⟨hk, st, hst, rfl⟩ := ha
  · exact h
  · have hb : InLimits floor ceiling k.baseline := h.inLimits (by obtain hk | hk := hk <;> rw [hk] <;> rfl)
    obtain rfl | rfl := hst
    · exact .of_inLimits (by simp [KeyRecord.enter]) hb
    · exact .of_inLimits (by simp [KeyRecord.enter]) hb

theorem KeyRecord.atIdle_baselineFits (hk : k.state.handThere = true) (h : k.BaselineFits floor ceiling) :
    k.atIdle.BaselineFits floor ceiling :=
  .of_inLimits (by simp [KeyRecord.atIdle]) (h.inLimits (by simp [KeyState.baselineInUse, hk]))

end

/-! ## Baselines through every event -/

/-- The floor and the ceiling of a channel, and the VALID means they allow (1, R4). -/
abbrev Configuration.floorOf (cfg : Configuration) (c : Channel) : Nat := cfg.channels[c].floor.toNat

abbrev Configuration.ceilingOf (cfg : Configuration) (c : Channel) : Nat := cfg.channels[c].ceiling.toNat

def Configuration.Allows (cfg : Configuration) (x : MeasResult) : Prop :=
  x.verdict = .valid → InLimits (cfg.floorOf x.channel) (cfg.ceilingOf x.channel) x.mean

/-- Every result of the round in flight is allowed. -/
def State.ResultsFit (s : State) : Prop := ∀ r, s.scan.round = some r → ∀ x ∈ r.results, s.live.Allows x

theorem State.baselinesFit_iff (s : State) :
    s.BaselinesFit ↔
      (∀ c : Channel, s.keys[c].BaselineFits (s.live.floorOf c) (s.live.ceilingOf c)) ∧ s.ResultsFit := by
  simp only [State.BaselinesFit, KeyRecord.BaselineFits, State.ResultsFit, Configuration.Allows, forall_and]
  tauto

theorem measurementChanged_limits {old new : ChannelConfig} (h : measurementChanged old new = false) :
    new.floor = old.floor ∧ new.ceiling = old.ceiling := by
  simp only [measurementChanged, Bool.or_eq_false_iff, bne_eq_false_iff_eq] at h
  obtain ⟨⟨-, hceiling⟩, hfloor⟩ := h
  exact ⟨hfloor.symm, hceiling.symm⟩

/-- A key that an install leaves in use has the floor and the ceiling it had (8, R143). -/
theorem InstallMove.baselineFits {old new : Configuration} {c : Channel} {k k' : KeyRecord}
    (h : InstallMove old new c k k') (ho : k.state = .off ↔ old.listed c = false)
    (hb : k.BaselineFits (old.floorOf c) (old.ceilingOf c)) :
    k'.BaselineFits (new.floorOf c) (new.ceilingOf c) := by
  cases h with
  | removed => exact .of_idle (.inl rfl)
  | calibrates => exact k.atCal_baselineFits
  | stays hl hm hk =>
    cases hlisted : old.listed c with
    | false =>
      have hoff := ho.2 hlisted
      obtain rfl | rfl | ⟨hhand, rfl⟩ := hk
      · exact .of_idle (.inl hoff)
      · exact .of_idle (.inl hoff)
      · exact absurd hoff (KeyState.ne_off_of_handThere hhand)
    | true =>
      obtain ⟨hfloor, hceiling⟩ := measurementChanged_limits (hm hlisted)
      rw [Configuration.floorOf, Configuration.ceilingOf, hfloor, hceiling]
      obtain rfl | rfl | ⟨hhand, rfl⟩ := hk
      · exact hb
      · exact hb.of_same rfl rfl rfl
      · exact KeyRecord.atIdle_baselineFits hhand hb

@[simp] theorem TrimRun.writeInto_limits (t : TrimRun) (cfg : Configuration) (c : Channel) :
    (t.writeInto cfg).channels[c].floor = cfg.channels[c].floor ∧
      (t.writeInto cfg).channels[c].ceiling = cfg.channels[c].ceiling := by
  simp only [TrimRun.writeInto, Fin.getElem_fin, getElem_tab]
  split <;> exact ⟨rfl, rfl⟩

/-- A move keeps the key fitting its channel's floor and ceiling, where OFF fits the list (4, R67). -/
theorem KeyMove.baselineFits {c : Channel} {x y : Configuration × KeyRecord}
    (h : KeyMove Configuration.Allows c x y) (ho : x.2.state = .off ↔ x.1.listed c = false)
    (hx : x.2.BaselineFits (x.1.floorOf c) (x.1.ceilingOf c)) : y.2.BaselineFits (y.1.floorOf c) (y.1.ceilingOf c) := by
  cases h with
  | measured hr hc =>
    subst hc
    exact keyStage_baselineFits _ hx hr
  | arbitrated ha => exact ha.baselineFits hx
  | released hk => exact KeyRecord.atIdle_baselineFits hk hx
  | restarted hk => exact .of_empty hk ⟨rfl, rfl⟩
  | calibrates => exact KeyRecord.atCal_baselineFits _
  | searched => exact hx.of_same rfl rfl rfl
  | trimmed => simpa only [Configuration.floorOf, Configuration.ceilingOf, TrimRun.writeInto_limits] using hx
  | installed hi => exact hi.baselineFits ho hx
  | @warmReset cfg k =>
    cases cfg.listed c
    · exact .of_idle (.inl rfl)
    · exact .of_empty rfl ⟨rfl, rfl⟩
  | powerOn => exact .of_idle (.inl rfl)

theorem KeyMoves.baselinesFit {s t : State} (h : KeyMoves Configuration.Allows s t) (ho : s.OffUnlisted)
    (hs : ∀ c : Channel, s.keys[c].BaselineFits (s.live.floorOf c) (s.live.ceilingOf c)) (c : Channel) :
    t.keys[c].BaselineFits (t.live.floorOf c) (t.live.ceilingOf c) := by
  have := h.invariant (P := fun c x => (x.2.state = .off ↔ x.1.listed c = false) ∧
    x.2.BaselineFits (x.1.floorOf c) (x.1.ceilingOf c))
    (fun hmove ⟨hoff, hfits⟩ => ⟨hmove.off_iff hoff, hmove.baselineFits hoff hfits⟩) c ⟨ho c, hs c⟩
  exact this.2

/-- A VALID burst of counts that a measurement on the live values can give is allowed (1, R4). -/
theorem Measurement.FitsLive.allows {cfg : Configuration} {m : Measurement} (h : m.FitsLive cfg) (cycles : Nat) :
    cfg.Allows (m.handed (m.countsWith cycles)) := by
  obtain ⟨-, -, -, hceiling, hfloor, -, -, -, -, hcounts⟩ := h
  intro hv
  have hne : m.countsWith cycles ≠ [] := by simp [Measurement.countsWith]
  obtain ⟨-, -, -, hvalid⟩ := burstVerdict_iff m hne
  obtain ⟨hnot, hlow, -⟩ := hvalid.1 hv
  have hbelow : ∀ n ∈ m.countsWith cycles, n < m.ceiling := by
    intro n hn
    refine lt_of_le_of_ne ?_ (fun e => hnot (e ▸ hn))
    obtain hn | hn := List.mem_append.1 hn
    · exact hcounts n hn
    · rw [List.mem_singleton.1 hn]
      exact min_le_right _ _
  have hpos : 0 < m.ceiling :=
    Nat.zero_lt_of_lt (hbelow (min cycles m.ceiling) (List.mem_append_right _ (List.mem_singleton_self _)))
  have hmean : burstMean (m.countsWith cycles) ≤ m.ceiling - 1 :=
    burstMean_le fun n hn => Nat.le_pred_of_lt (hbelow n hn)
  show cfg.channels[m.channel].floor.toNat ≤ _ ∧ _ < cfg.channels[m.channel].ceiling.toNat
  rw [hceiling, hfloor]
  exact ⟨hlow, hmean.trans_lt (Nat.sub_one_lt hpos.ne')⟩

/-! ## The results of the round in flight -/

theorem State.ResultsFit.of_eq {s t : State} (h : s.ResultsFit) (hr : t.scan.round = s.scan.round)
    (hl : t.live = s.live) : t.ResultsFit := by
  simpa only [State.ResultsFit, hr, hl] using h

theorem State.ResultsFit.of_workings {s t : State} (h : s.ResultsFit) (ht : t.workings = s.workings) :
    t.ResultsFit := by
  obtain ⟨hl, -, -, -, hr, -⟩ := State.workings_eq_iff.1 ht
  exact h.of_eq hr hl

theorem State.ResultsFit.of_none {s : State} (h : s.scan.round = none) : s.ResultsFit := by
  simp [State.ResultsFit, h]

/-- A round that has just started has no result (2, R22). -/
theorem State.launchRound_resultsFit (s : State) : s.launchRound.ResultsFit := by
  unfold State.launchRound
  dsimp only
  split
  · exact .of_none (by simp)
  · intro r hr
    obtain rfl := Option.some.inj (by simpa using hr)
    simp

theorem State.startRound_resultsFit (s : State) : s.startRound.ResultsFit := s.installPending.launchRound_resultsFit

theorem State.completeRound_resultsFit (s : State) (kind : RoundKind) (rs : List MeasResult) :
    (s.completeRound kind rs).ResultsFit := by
  rw [State.completeRound_eq rfl]
  split
  · exact State.startRound_resultsFit _
  · exact .of_none (by simp)

theorem State.ResultsFit.receiveScan {s : State} (h : s.ResultsFit) {x : MeasResult} (hx : s.live.Allows x) :
    (s.receiveScan x).ResultsFit := by
  unfold State.receiveScan
  split
  · exact h
  next r hr =>
    dsimp only
    split
    · intro r' hr' y hy
      obtain rfl := Option.some.inj hr'
      obtain hy | hy := List.mem_append.1 hy
      · exact h r hr y hy
      · rwa [List.mem_singleton.1 hy]
    · exact State.completeRound_resultsFit _ _ _

theorem State.ResultsFit.endConversion {s : State} (h : s.ResultsFit) (hc : s.Controlled) (hm : s.Measuring)
    (cycles : Nat) : (s.endConversion cycles).ResultsFit := by
  cases hcur : s.engine.current with
  | none => simpa [State.endConversion, hcur] using h
  | some m =>
    rw [State.endConversion_eq hcur]
    unfold State.endBurst
    (repeat' split)
    · exact h.of_eq rfl rfl
    · exact h.of_eq rfl rfl
    cases hq : m.requester with
    | scan =>
      exact State.ResultsFit.receiveScan (s := s.abandonMeasurement) h
        (Measurement.FitsLive.allows (hm m hcur) cycles)
    | trim =>
      obtain ⟨-, hround, -⟩ := hc.trim_search hcur hq
      refine .of_none ?_
      simp only [State.deliver, State.receiveTrim]
      (repeat' split)
      · exact hround
      · simpa using hround
      · simpa [State.completeTrim] using hround

theorem State.ResultsFit.expireRoundTimer {s : State} (h : s.ResultsFit) : s.expireRoundTimer.ResultsFit := by
  unfold State.expireRoundTimer
  (repeat' split)
  · exact h
  · exact s.startRound_resultsFit
  · exact h.of_eq rfl rfl

theorem State.ResultsFit.leaveDoze {s : State} (h : s.ResultsFit) : s.leaveDoze.ResultsFit := by
  unfold State.leaveDoze
  split
  · exact State.startRound_resultsFit _
  · exact h.of_eq rfl rfl

/-- In STOPPED no round is in flight (2, R20). -/
theorem State.Controlled.noRound_of_stopped {s : State} (h : s.Controlled) (hm : s.scan.mode = .stopped) :
    s.scan.round = none := by
  obtain ⟨hround, -⟩ := (State.controlled_of_stopped hm).1 h
  exact hround

theorem State.ResultsFit.takeCommand {s : State} (h : s.ResultsFit) (hc : s.Controlled) (n : CommandName) :
    (s.takeCommand n).ResultsFit := by
  cases n with
  | start =>
    simp only [State.takeCommand, State.takeStart]
    (repeat' split)
    · exact h.of_workings (by simp)
    · exact h.of_workings (by simp)
    · exact State.startRound_resultsFit _
  | stop =>
    simp only [State.takeCommand, State.takeStop]
    split
    · exact .of_none (by simp [State.abandonRound])
    · exact h.of_workings (by simp)
  | commit =>
    simp only [State.takeCommand, State.takeCommit]
    (repeat' split)
    · exact h.of_workings (by simp)
    · exact h.of_workings (by simp)
    next hmode =>
      obtain ⟨-, -, -, -, hscan⟩ := s.install_units s.store.staging
      exact .of_none (by rw [hscan, if_neg (by simp [hmode]), hc.noRound_of_stopped hmode])
    · exact h.of_eq (by simp) (by simp [State.live])
  | recal =>
    simp only [State.takeCommand, State.takeRecal, State.recalKeys]
    (repeat' split)
    · exact h.of_workings (by simp)
    · exact h.of_workings (by simp)
    · exact h.of_eq (by simp) (State.live_of_store (by simp))
    · exact h.of_eq (by simp) (State.live_of_store (by simp))
    · exact h.of_eq (by simp) (State.live_of_store (by simp))
    · exact State.ResultsFit.leaveDoze (h.of_eq (by simp) (State.live_of_store (by simp)))
  | trim =>
    simp only [State.takeCommand, State.takeTrim]
    (repeat' split)
    · exact h.of_workings (by simp)
    · exact h.of_workings (by simp)
    · exact h.of_eq (by simp) (State.live_of_store (by simp))
  | doze =>
    simp only [State.takeCommand, State.takeDoze]
    split
    · exact h.of_workings (by simp)
    · exact .of_none (by simp [State.setDozeTimer, State.abandonRound])
  | wake =>
    simp only [State.takeCommand, State.takeWake]
    split
    · exact h.of_workings (by simp)
    · exact State.ResultsFit.leaveDoze (h.of_eq (by simp) (State.live_of_store (by simp)))
  | flush => exact h.of_workings s.takeFlush_workings
  | abort =>
    simp only [State.takeCommand, State.takeAbort]
    split
    · exact h.of_workings (by simp)
    · exact h.of_eq (by simp) (by simp [State.live])
    · exact h.of_eq (by simp) (State.live_of_store (by simp))
    · exact h.of_eq (by simp [State.cancelTrim]) (State.live_of_store (by simp))
  | reset => exact h.of_workings s.takeReset_workings

theorem State.Measuring.of_workings {s t : State} (h : s.Measuring) (ht : t.workings = s.workings) : t.Measuring := by
  obtain ⟨hl, -, he, -⟩ := State.workings_eq_iff.1 ht
  simpa only [State.Measuring, hl, he] using h

theorem State.ResultsFit.workingsStep {s t : State} {i : Instr} (h : s.ResultsFit) (hc : s.Controlled)
    (hm : s.Measuring) (hst : WorkingsStep i s t) : t.ResultsFit := by
  cases hst with
  | unchanged ht => exact h.of_workings ht
  | command u n hu _ _ ht => exact ((h.of_workings hu).takeCommand (hc.congr hu) n).of_workings ht
  | conversion u cycles hu _ ht =>
    exact ((h.of_workings hu).endConversion (hc.congr hu) (hm.of_workings hu) cycles).of_workings ht
  | roundTimer u hu _ ht => exact (h.of_workings hu).expireRoundTimer.of_workings ht
  | warmReset u _ _ ht => exact (State.ResultsFit.of_none (s := u.warmReset) rfl).of_workings ht
  | powerOn _ ht => exact (State.ResultsFit.of_none (s := State.reset) rfl).of_workings ht

/-- Settles O53: every move of a key keeps each of the three, and the results that move it are allowed. -/
theorem keysFitList : Obligations.KeysFitList := by
  refine ⟨fun s t hoff hnear hstep => ?_, fun s t hc hoff hm hfit hstep => ?_⟩
  · obtain rfl | ⟨i, hst⟩ := step_workings hstep
    · exact ⟨hoff, hnear⟩
    have hmoves : KeyMoves (fun _ _ => True) s t := .workingsStep hst (by simp) (by simp)
    exact ⟨hmoves.offUnlisted hoff, hmoves.nearFits hnear⟩
  · obtain rfl | ⟨i, hst⟩ := step_workings hstep
    · exact hfit
    rw [State.baselinesFit_iff] at hfit ⊢
    obtain ⟨hkeys, hresults⟩ := hfit
    have hmoves : KeyMoves Configuration.Allows s t :=
      .workingsStep hst hresults fun m cycles hcur => Measurement.FitsLive.allows (hm m hcur) cycles
    exact ⟨hmoves.baselinesFit hoff hkeys, hresults.workingsStep hc hm hst⟩

end Sys2Proof.Machine
end

section
/-! SUPPORT. Every event keeps the keys quiet in STOPPED and TRIM, and the non-wake keys quiet in DOZE (3, R58; 4, R79; 5,
R97; 10, R163, R164). -/

namespace Sys2Proof.Machine

/-! ## Quiet keys -/

/-- No key is in PROX, DETECT, PRESSED or SUPPRESSED: `State.ModeQuiet` in STOPPED and TRIM. -/
def State.Quiet (s : State) : Prop := ∀ c : Channel, s.keys[c].state.handThere = false

/-- Every listed non-wake key is in IDLE or FAULT: `State.ModeQuiet` in DOZE. -/
def State.NonWakeQuiet (s : State) : Prop :=
  ∀ c : Channel, s.live.listed c = true → s.live.channels[c].wake = false →
    s.keys[c].state = .idle ∨ s.keys[c].state = .fault

theorem State.modeQuiet_iff (s : State) :
    s.ModeQuiet ↔
      (s.scan.mode = .stopped ∨ s.scan.mode = .trim → s.Quiet) ∧ (s.scan.mode = .doze → s.NonWakeQuiet) :=
  Iff.rfl

theorem State.ModeQuiet.of_active {s : State} (hm : s.scan.mode = .active) : s.ModeQuiet := by
  simp [State.modeQuiet_iff, hm]

theorem State.ModeQuiet.of_quiet {s : State} (hm : s.scan.mode = .stopped ∨ s.scan.mode = .trim) (hq : s.Quiet) :
    s.ModeQuiet :=
  ⟨fun _ => hq, fun hd => by obtain hm | hm := hm <;> rw [hm] at hd <;> cases hd⟩

theorem State.ModeQuiet.of_doze {s : State} (hm : s.scan.mode = .doze) (hq : s.NonWakeQuiet) : s.ModeQuiet :=
  ⟨fun hs => by rw [hm] at hs; simp at hs, fun _ => hq⟩

theorem State.ModeQuiet.of_eq {s t : State} (h : s.ModeQuiet) (hm : t.scan.mode = s.scan.mode) (hl : t.live = s.live)
    (hk : t.keys = s.keys) : t.ModeQuiet := by
  simpa only [State.ModeQuiet, hm, hl, hk] using h

theorem State.ModeQuiet.of_workings {s t : State} (h : s.ModeQuiet) (ht : t.workings = s.workings) :
    t.ModeQuiet := by
  obtain ⟨hl, -, -, hm, -, -, -, hk, -⟩ := State.workings_eq_iff.1 ht
  exact h.of_eq hm hl hk

theorem State.Quiet.of_eq {s t : State} (h : s.Quiet) (hk : t.keys = s.keys) : t.Quiet := by
  simpa only [State.Quiet, hk] using h

theorem State.ModeQuiet.quiet {s : State} (h : s.ModeQuiet) (hm : s.scan.mode = .stopped ∨ s.scan.mode = .trim) :
    s.Quiet :=
  h.1 hm

/-! ## Evaluations -/

theorem ArbitratedTo.eq_of_state {k k' : KeyRecord} (h : ArbitratedTo k k')
    (hk : k.state ≠ .pressed ∧ k.state ≠ .suppressed) : k' = k :=
  h.resolve_right fun ⟨hs, _⟩ => hs.elim hk.1 hk.2

/-- The group stage leaves a key that is neither PRESSED nor SUPPRESSED (5, R84 to R86). -/
theorem stageKeys_of_state {keys : Vector KeyRecord 24} {c : Channel}
    (h : keys[c].state ≠ .pressed ∧ keys[c].state ≠ .suppressed) (cfg : Configuration) (prior : Vector KeyRecord 24) :
    (stageKeys cfg prior keys)[c] = keys[c] := by
  unfold stageKeys
  induction allGroups generalizing keys with
  | nil => rfl
  | cons g rest ih =>
    have hg := (groupKeys_arbitrated cfg prior keys g c).eq_of_state h
    exact (ih (keys := groupKeys cfg prior keys g) (by rwa [hg])).trans hg

/-- A key without a result is not stepped (3, R41). -/
theorem steppedKeys_of_unmeasured {rs : List MeasResult} {c : Channel} (h : ∀ x ∈ rs, x.channel ≠ c)
    (cfg : Configuration) (keys : Vector KeyRecord 24) : (steppedKeys cfg rs keys)[c] = keys[c] := by
  have hnone : rs.find? (fun r => r.channel == c) = none := by simpa using h
  simp [steppedKeys, steppedKey, hnone]

/-- An evaluation leaves the quiet keys it has no result of. -/
theorem State.evaluate_of_unmeasured {s : State} {rs : List MeasResult} {c : Channel} (h : ∀ x ∈ rs, x.channel ≠ c)
    (hk : s.keys[c].state = .idle ∨ s.keys[c].state = .fault) : (s.evaluate rs).keys[c] = s.keys[c] := by
  have hstep := steppedKeys_of_unmeasured h s.live s.keys
  rw [State.evaluate_keys, stageKeys_of_state, hstep]
  rw [hstep]
  obtain hk | hk := hk <;> rw [hk] <;> decide

theorem State.evaluated_keys (s : State) (rs : List MeasResult) : (s.evaluated rs).keys = (s.evaluate rs).keys := rfl

/-- A round over the wake channels leaves the non-wake keys quiet (10, R164). -/
theorem State.NonWakeQuiet.evaluated {s : State} (h : s.NonWakeQuiet) {rs : List MeasResult}
    (hrs : ∀ x ∈ rs, x.channel ∈ s.live.measuredChannels .doze) : (s.evaluated rs).NonWakeQuiet := by
  intro c hl hw
  rw [State.evaluated_live] at hl hw
  have hc := h c hl hw
  have hnot : ∀ x ∈ rs, x.channel ≠ c := by
    rintro x hx rfl
    have hwake : s.live.channels[x.channel].wake = true := (List.mem_filter.1 (hrs x hx)).2
    rw [hwake] at hw
    cases hw
  rwa [State.evaluated_keys, State.evaluate_of_unmeasured hnot hc]

/-! ## Rounds -/

/-- The inactivity check brings DOZE only where every key is in OFF, IDLE or FAULT (10, R160, R161). -/
theorem State.inactivityCheck_modeQuiet {s : State} (hm : s.scan.mode = .active) (ho : s.OffUnlisted) :
    s.inactivityCheck.ModeQuiet := by
  by_cases hd : dozesAt s.live (quietCount s.keys s.scan.inactivity)
  · rw [State.inactivityCheck_of_dozes hd]
    refine .of_doze rfl fun c hl _ => ?_
    have hquiet : ∀ c : Channel, s.keys[c].state = .off ∨ s.keys[c].state = .idle ∨ s.keys[c].state = .fault := by
      by_contra hnot
      rw [dozesAt, quietCount, if_neg hnot] at hd
      omega
    refine (hquiet c).resolve_left fun hoff => ?_
    have hlisted : s.live.listed c = true := hl
    rw [(ho c).1 hoff] at hlisted
    cases hlisted
  · rw [State.inactivityCheck_of_stays hd]
    exact .of_active hm

theorem State.wakeKeyCheck_modeQuiet {s : State} (hs : s.Scans) (hq : s.scan.mode = .doze → s.NonWakeQuiet) :
    s.wakeKeyCheck.ModeQuiet := by
  unfold State.wakeKeyCheck
  (repeat' split)
  · exact .of_active rfl
  next hm _ _ => exact .of_doze hm (hq hm)
  next hm => exact .of_active (hs.resolve_right hm)

/-- Stages 1 to 3 of a completion; in DOZE the round is one over the wake channels (2, R26). -/
theorem State.ModeQuiet.finishRound {s : State} (h : s.ModeQuiet) (hs : s.Scans) (ho : s.OffUnlisted)
    {kind : RoundKind} {rs : List MeasResult}
    (hdoze : s.scan.mode = .doze → kind = .doze ∧ ∀ x ∈ rs, x.channel ∈ s.live.measuredChannels .doze) :
    (s.finishRound kind rs).ModeQuiet := by
  cases kind with
  | active =>
    have hm : s.scan.mode = .active := hs.resolve_right fun hd => by cases (hdoze hd).1
    rw [State.finishRound_active]
    exact State.inactivityCheck_modeQuiet hm (State.evaluate_offUnlisted ho rs)
  | doze =>
    rw [State.finishRound_doze]
    refine State.wakeKeyCheck_modeQuiet hs fun hd => ?_
    exact State.NonWakeQuiet.evaluated (h.2 hd) (hdoze hd).2

theorem State.OffUnlisted.of_moves {s t : State} (h : s.OffUnlisted) (hst : KeyMoves (fun _ _ => True) s t) :
    t.OffUnlisted :=
  hst.offUnlisted h

/-- An install at the start of a round brings ACTIVE (8, R146). -/
theorem State.ModeQuiet.installPending {s : State} (h : s.ModeQuiet) (hs : s.Scans) : s.installPending.ModeQuiet := by
  unfold State.installPending
  split
  next new _ =>
    obtain ⟨-, -, -, -, hscan⟩ := s.install_units new
    refine .of_active ?_
    rw [hscan]
    obtain hm | hm := hs <;> simp [hm]
  · exact h

theorem State.ModeQuiet.launchRound {s : State} (h : s.ModeQuiet) (hs : s.Scans) (ho : s.OffUnlisted) :
    s.launchRound.ModeQuiet := by
  unfold State.launchRound
  dsimp only
  split
  · refine State.ModeQuiet.finishRound ?_ ?_ ?_ ?_
    · exact h
    · exact hs
    · exact ho
    · exact fun hd => ⟨(roundKindOf_eq_doze _).1 hd, by simp⟩
  · exact h.of_eq (by simp) (State.live_of_store (by simp)) (by simp)

theorem State.ModeQuiet.startRound {s : State} (h : s.ModeQuiet) (hs : s.Scans) (ho : s.OffUnlisted) :
    s.startRound.ModeQuiet :=
  (h.installPending hs).launchRound hs.installPending (ho.of_moves .installPending)

theorem State.ModeQuiet.completeRound {s : State} (h : s.ModeQuiet) (hs : s.Scans) (ho : s.OffUnlisted)
    {kind : RoundKind} {rs : List MeasResult}
    (hdoze : s.scan.mode = .doze → kind = .doze ∧ ∀ x ∈ rs, x.channel ∈ s.live.measuredChannels .doze) :
    (s.completeRound kind rs).ModeQuiet := by
  have hf := h.finishRound hs ho hdoze
  rw [State.completeRound_eq rfl]
  split
  · exact hf.startRound (hs.finishRound kind rs) (ho.of_moves (.finishRound (by simp) kind))
  · exact hf

/-- The results of the round in flight are those of its measured channels (2, R25). -/
theorem State.RoundFits.results_measured {s : State} {r : Round} {m : Measurement} (h : s.RoundFits)
    (hr : s.scan.round = some r) (hm : s.engine.current = some m) {x : MeasResult} (hx : x.channel = m.channel) :
    ∀ y ∈ r.results ++ [x], y.channel ∈ s.live.measuredChannels r.kind := by
  simp only [State.RoundFits, hr] at h
  obtain ⟨hmeas, m', hm', -, hplace, hres⟩ := h
  obtain rfl := Option.some.inj (hm.symm.trans hm')
  rw [← hmeas]
  intro y hy
  obtain hy | hy := List.mem_append.1 hy
  · have : y.channel ∈ r.measured.take r.results.length := hres ▸ List.mem_map_of_mem hy
    exact List.mem_of_mem_take this
  · rw [List.mem_singleton.1 hy, hx]
    exact List.mem_of_getElem? hplace

theorem State.ModeQuiet.receiveScan {s : State} (h : s.ModeQuiet) (hc : s.Controlled) (ho : s.OffUnlisted)
    {m : Measurement} (hm : s.engine.current = some m) (hq : m.requester = .scan) {x : MeasResult}
    (hx : x.channel = m.channel) : (s.abandonMeasurement.receiveScan x).ModeQuiet := by
  obtain ⟨hs, ⟨-, hround, -, -, hkind⟩, r, hr⟩ := hc.scan_round hm hq
  simp only [State.receiveScan, State.abandonMeasurement_frame, hr]
  split
  · exact h.of_eq (by simp) (State.live_of_store (by simp)) (by simp)
  · refine State.ModeQuiet.completeRound (s := s.abandonMeasurement) h hs ho fun hd => ?_
    have hk := hkind hd r hr
    exact ⟨hk, hk ▸ hround.results_measured hr hm hx⟩

/-! ## The trim search -/

/-- A trim that ends sends keys to CAL and nowhere else (9, R156). -/
theorem State.Quiet.completeTrim {s : State} (h : s.Quiet) (run : TrimRun) : (s.completeTrim run).Quiet := by
  intro c
  have hmark : (run.mark c s.keys[c]).state.handThere = false := by
    unfold TrimRun.mark
    split <;> exact h c
  rw [State.completeTrim_keys]
  split
  · unfold trimEndKey
    split
    · exact hmark
    · rw [moveKey_state]
      rfl
  · exact hmark

theorem State.ModeQuiet.receiveTrim {s : State} (h : s.ModeQuiet) (hm : s.scan.mode = .trim) (x : MeasResult) :
    (s.receiveTrim x).ModeQuiet := by
  unfold State.receiveTrim
  (repeat' split)
  · exact h
  · exact h.of_eq (by simp) (State.live_of_store (by simp)) (by simp)
  · exact .of_quiet (.inl (by simp [State.completeTrim])) ((h.quiet (.inr hm)).completeTrim _)

/-! ## Conversions and the round timer -/

theorem State.ModeQuiet.endConversion {s : State} (h : s.ModeQuiet) (hc : s.Controlled) (ho : s.OffUnlisted)
    (cycles : Nat) : (s.endConversion cycles).ModeQuiet := by
  cases hm : s.engine.current with
  | none => simpa [State.endConversion, hm] using h
  | some m =>
    rw [State.endConversion_eq hm]
    unfold State.endBurst
    (repeat' split)
    · exact h.of_eq rfl rfl rfl
    · exact h.of_eq rfl rfl rfl
    cases hq : m.requester with
    | scan => exact h.receiveScan hc ho hm hq rfl
    | trim =>
      obtain ⟨hmode, -⟩ := hc.trim_search hm hq
      exact State.ModeQuiet.receiveTrim (s := s.abandonMeasurement) h hmode _

theorem State.ModeQuiet.expireRoundTimer {s : State} (h : s.ModeQuiet) (hc : s.Controlled) (ho : s.OffUnlisted) :
    s.expireRoundTimer.ModeQuiet := by
  by_cases ht : s.scan.timer = none
  · rwa [State.expireRoundTimer_of_stopped ht]
  by_cases hr : s.scan.round = none
  · rw [State.expireRoundTimer_of_free ht hr]
    exact h.startRound (hc.scans_of_timer ht) ho
  · rw [State.expireRoundTimer_of_round ht hr]
    exact h.of_eq rfl rfl rfl

/-! ## Commands -/

/-- The return to ACTIVE may start a round, and over an empty list that round may bring DOZE (2, R32). -/
theorem State.leaveDoze_modeQuiet {s : State} (hm : s.scan.mode = .active) (ho : s.OffUnlisted) :
    s.leaveDoze.ModeQuiet := by
  unfold State.leaveDoze
  split
  · exact State.ModeQuiet.startRound (s := s.stopTimer) (.of_active hm) (.inl hm) ho
  · exact .of_active hm

/-- STOP releases every key a hand is near or on: an unlisted one is in OFF (3, R58). -/
theorem State.releaseForStop_quiet {s : State} (ho : s.OffUnlisted) : s.releaseForStop.Quiet := by
  intro c
  rw [State.releaseForStop_keys]
  split
  next hl => rw [(ho c).2 hl]; rfl
  split
  next hk => exact congrArg KeyState.handThere hk
  split
  · rfl
  next hk => simpa using hk

/-- DOZE releases the non-wake keys a hand is near or on; with none in CAL they are in IDLE or FAULT (10, R162, R163). -/
theorem State.releaseForDoze_quiet {s : State} (ho : s.OffUnlisted) (hb : s.dozeBlocked = false) :
    s.releaseForDoze.NonWakeQuiet := by
  intro c hl hw
  have hlive : s.releaseForDoze.live = s.live := State.live_of_store (by simp)
  rw [hlive] at hl hw
  have hmem : c ∈ s.live.nonWakeChannels :=
    List.mem_filter.2 ⟨(listed_iff_mem _ c).1 hl, by rw [hw]; rfl⟩
  have hcal : s.keys[c].state ≠ .cal := by
    simp only [State.dozeBlocked, List.any_eq_false, beq_iff_eq] at hb
    exact hb c hmem
  have hoff : s.keys[c].state ≠ .off := fun h => by simp [(ho c).1 h] at hl
  have hkey : s.releaseForDoze.keys[c] = (releaseKey s.live .doze c s.keys[c]).1 := by
    simp [State.releaseForDoze, hmem]
  rw [hkey, releaseKey_eq]
  cases hk : s.keys[c].state <;> simp_all [KeyState.handThere, KeyRecord.atIdle]

theorem InstallMove.handThere {old new : Configuration} {c : Channel} {k k' : KeyRecord}
    (h : InstallMove old new c k k') (hk : k.state.handThere = false) : k'.state.handThere = false := by
  cases h with
  | removed => rfl
  | calibrates => rfl
  | stays _ _ hk' =>
    obtain rfl | rfl | ⟨-, rfl⟩ := hk'
    · exact hk
    · exact hk
    · rfl

theorem State.Quiet.install {s : State} (h : s.Quiet) (new : Configuration) : (s.install new).Quiet := by
  intro c
  rw [State.install_keys]
  exact (installKey_move _ _ _ _).handThere (h c)

theorem State.Quiet.sendToCal {s : State} (h : s.Quiet) (targets : List Channel) : (s.sendToCal targets).Quiet := by
  intro c
  rw [State.sendToCal_keys]
  split
  · rfl
  · exact h c

theorem State.ModeQuiet.recalKeys {s : State} (h : s.ModeQuiet) (ho : s.OffUnlisted) {targets : List Channel}
    (ht : ∀ c ∈ targets, s.live.listed c = true) : (s.recalKeys targets).ModeQuiet := by
  unfold State.recalKeys
  split
  next hm => exact .of_quiet (.inl (by simpa using hm)) (((h.quiet (.inl hm)).sendToCal targets).of_eq (by simp))
  next hm => exact .of_quiet (.inr (by simpa using hm)) (((h.quiet (.inr hm)).sendToCal targets).of_eq (by simp))
  next hm => exact .of_active (by simpa using hm)
  · refine State.leaveDoze_modeQuiet (by simp) (ho.of_moves ?_)
    exact (KeyMoves.sendToCal ht).then_eq (State.live_of_store (by simp)) (by simp)

theorem State.ModeQuiet.takeStart {s : State} (h : s.ModeQuiet) (ho : s.OffUnlisted) : s.takeStart.ModeQuiet := by
  unfold State.takeStart
  (repeat' split)
  · exact h.of_workings (by simp)
  · exact h.of_workings (by simp)
  · exact State.ModeQuiet.startRound (.of_active (by simp)) (.inl (by simp))
      (ho.of_moves (.of_eq (State.live_of_store (by simp)) (by simp)))

theorem State.ModeQuiet.takeStop {s : State} (h : s.ModeQuiet) (ho : s.OffUnlisted) : s.takeStop.ModeQuiet := by
  unfold State.takeStop
  split
  · have hq : s.abandonRound.stopTimer.releaseForStop.Quiet := State.releaseForStop_quiet ho
    exact .of_quiet (.inl (by simp)) (hq.of_eq (by simp))
  · exact h.of_workings (by simp)

theorem State.ModeQuiet.takeCommit {s : State} (h : s.ModeQuiet) : s.takeCommit.ModeQuiet := by
  unfold State.takeCommit
  (repeat' split)
  · exact h.of_workings (by simp)
  · exact h.of_workings (by simp)
  next hm =>
    obtain ⟨-, -, -, -, hscan⟩ := s.install_units s.store.staging
    exact .of_quiet (.inl (by rw [hscan, if_neg (by simp [hm]), hm])) ((h.quiet (.inl hm)).install _)
  · exact h.of_eq (by simp) (by simp [State.live]) (by simp)

theorem State.ModeQuiet.takeTrim {s : State} (h : s.ModeQuiet) : s.takeTrim.ModeQuiet := by
  unfold State.takeTrim
  (repeat' split)
  · exact h.of_workings (by simp)
  · exact h.of_workings (by simp)
  next hm _ =>
    exact .of_quiet (.inr (by simp)) ((h.quiet (.inl (by simpa using hm))).of_eq (by simp))

theorem State.ModeQuiet.takeDoze {s : State} (h : s.ModeQuiet) (ho : s.OffUnlisted) : s.takeDoze.ModeQuiet := by
  unfold State.takeDoze
  split
  · exact h.of_workings (by simp)
  next hok =>
    have hb : s.dozeBlocked = false := by simpa using fun hb => hok (.inr hb)
    have hq : s.abandonRound.setDozeTimer.releaseForDoze.NonWakeQuiet := State.releaseForDoze_quiet ho hb
    refine .of_doze (by simp) ?_
    simpa [State.NonWakeQuiet, State.live] using hq

theorem State.ModeQuiet.takeAbort {s : State} (h : s.ModeQuiet) (hc : s.Controlled) : s.takeAbort.ModeQuiet := by
  unfold State.takeAbort
  split
  · exact h.of_workings (by simp)
  · exact h.of_eq (by simp) (by simp [State.live]) (by simp)
  · exact h.of_eq (by simp) (State.live_of_store (by simp)) (by simp)
  next hw => exact .of_quiet (.inl (by simp [State.cancelTrim])) ((h.quiet (.inr (hc.trim_of_work hw))).of_eq (by simp))

theorem State.ModeQuiet.takeCommand {s : State} (h : s.ModeQuiet) (hc : s.Controlled) (ho : s.OffUnlisted)
    (n : CommandName) : (s.takeCommand n).ModeQuiet := by
  cases n with
  | start => exact h.takeStart ho
  | stop => exact h.takeStop ho
  | commit => exact h.takeCommit
  | recal =>
    simp only [State.takeCommand, State.takeRecal]
    split
    · exact h.of_workings (by simp)
    · exact h.of_workings (by simp)
    next ht => exact h.recalKeys ho (recalTargets_listed ht)
  | trim => exact h.takeTrim
  | doze => exact h.takeDoze ho
  | wake =>
    simp only [State.takeCommand, State.takeWake]
    split
    · exact h.of_workings (by simp)
    · exact State.leaveDoze_modeQuiet (by simp) (ho.of_moves (.of_eq (State.live_of_store (by simp)) (by simp)))
  | flush => exact h.of_workings s.takeFlush_workings
  | abort => exact h.takeAbort hc
  | reset => exact h.of_workings s.takeReset_workings

/-! ## Events -/

theorem State.warmReset_quiet (s : State) : s.warmReset.Quiet := by
  intro c
  rw [State.warmReset_keys]
  cases s.live.listed c <;> rfl

theorem State.reset_quiet : State.reset.Quiet := by
  intro c
  rw [State.reset_keys]
  rfl

theorem State.ModeQuiet.workingsStep {s t : State} {i : Instr} (h : s.ModeQuiet) (hc : s.Controlled)
    (ho : s.OffUnlisted) (hst : WorkingsStep i s t) : t.ModeQuiet := by
  have off {u : State} (hu : u.workings = s.workings) : u.OffUnlisted := ho.of_moves (.of_workings hu)
  cases hst with
  | unchanged ht => exact h.of_workings ht
  | command u n hu _ _ ht => exact ((h.of_workings hu).takeCommand (hc.congr hu) (off hu) n).of_workings ht
  | conversion u cycles hu _ ht =>
    exact ((h.of_workings hu).endConversion (hc.congr hu) (off hu) cycles).of_workings ht
  | roundTimer u hu _ ht => exact ((h.of_workings hu).expireRoundTimer (hc.congr hu) (off hu)).of_workings ht
  | warmReset u _ _ ht => exact (State.ModeQuiet.of_quiet (.inl rfl) u.warmReset_quiet).of_workings ht
  | powerOn _ ht => exact (State.ModeQuiet.of_quiet (.inl rfl) State.reset_quiet).of_workings ht

/-- Settles O59: every way an event changes the workings keeps the keys quiet where the mode asks for it. -/
theorem quietModesStayQuiet : Obligations.QuietModesStayQuiet := by
  intro s t hc _ hoff _ hq hstep
  obtain rfl | ⟨i, hst⟩ := step_workings hstep
  · exact hq
  · exact hq.workingsStep hc hoff hst

end Sys2Proof.Machine
end

section
/-! SUPPORT. The channel step, verdict by verdict and state by state (3, R42 to R51). -/

namespace Sys2Proof.Machine

/-! ## Moves -/

theorem moveKey_prox (c : Channel) (k : KeyRecord) :
    moveKey c .prox k =
      ({ k with state := .prox, debounce := 0, release := 0, onDuration := 0, near := true },
        if k.near then [] else [proxOnRecord c]) := by
  cases h : k.near <;> simp [moveKey, KeyRecord.enter, h]

theorem moveKey_detect (c : Channel) (k : KeyRecord) :
    moveKey c .detect k = ({ k with state := .detect, debounce := 1, release := 0, onDuration := 0 }, []) := rfl

theorem moveKey_pressed (c : Channel) (k : KeyRecord) :
    moveKey c .pressed k = ({ k with state := .pressed, debounce := 0, release := 0, onDuration := 0 }, []) := rfl

theorem moveKey_fault (c : Channel) (k : KeyRecord) :
    moveKey c .fault k =
      ({ k with
          state := .fault, debounce := 0, release := 0, onDuration := 0, acc := Accumulator.empty, near := false },
        if k.near then [proxOffRecord c] else []) := by
  cases h : k.near <;> simp [moveKey, KeyRecord.enter, h]

theorem upBefore_of_pressed (member : Bool) (c : Channel) (cause : ReleaseCause) {k : KeyRecord}
    (h : k.state = .pressed) (o : KeyOutcome) :
    upBefore member c cause k o = (o.1, keyUpRecords member c cause ++ o.2) := by
  rw [upBefore, if_pos h]

/-! ## Tests (3, section 3.4) -/

theorem touchTest_iff (ch : ChannelConfig) (d : Int) : touchTest ch d = true ↔ (ch.touch.toNat : Int) ≤ d := by
  simp [touchTest]

theorem nearTest_iff (ch : ChannelConfig) (d : Int) :
    nearTest ch d = true ↔ ch.prox.toNat ≠ 0 ∧ (ch.prox.toNat : Int) ≤ d := by
  have hzero : ch.prox = 0 ↔ ch.prox.toNat = 0 := BitVec.toNat_eq
  rw [nearTest, Bool.and_eq_true, bne_iff_ne, decide_eq_true_iff, Ne, hzero]

theorem belowRelease_iff (ch : ChannelConfig) (d : Int) : belowRelease ch d = true ↔ d < (ch.release.toNat : Int) := by
  simp [belowRelease]

/-! ## The channel step by verdict -/

/-- A key in FAULT or OFF is not stepped (3, R38, R48). -/
theorem channelStep_of_fault_or_off (g : Globals) (ch : ChannelConfig) (member : Bool) (r : MeasResult) {k : KeyRecord}
    (h : k.state = .fault ∨ k.state = .off) : channelStep g ch member r k = (k, []) :=
  if_pos h

theorem channelStep_of_noisy (g : Globals) (ch : ChannelConfig) (member : Bool) {r : MeasResult} (k : KeyRecord)
    (h : r.verdict = .noisy) : channelStep g ch member r k = (k, []) := by
  simp [channelStep, h]

/-- A VALID result: a key in FAULT or OFF is left by both steps. -/
theorem channelStep_of_valid (g : Globals) (ch : ChannelConfig) (member : Bool) (c : Channel) (mean : Nat)
    (k : KeyRecord) : channelStep g ch member ⟨c, .valid, mean⟩ k = validStep g ch member c mean k := by
  unfold channelStep
  split
  next h => obtain h | h := h <;> simp [validStep, h]
  · rfl

/-- The fault kind that an OPEN or SHORT result names (3, R50). -/
def Verdict.faultKind (v : Verdict) : FaultKind := if v = .openCircuit then .openCircuit else .shorted

theorem channelStep_of_open_or_short (g : Globals) (ch : ChannelConfig) (member : Bool) {r : MeasResult}
    {k : KeyRecord} (hv : r.verdict = .openCircuit ∨ r.verdict = .shorted) (ho : k.state ≠ .off)
    (hf : k.state ≠ .fault) : channelStep g ch member r k = faultStep g member r.channel r.verdict.faultKind k := by
  rw [channelStep, if_neg (by simp [ho, hf])]
  obtain hv | hv := hv <;> rw [hv] <;> rfl

/-- The step of an OPEN or SHORT result: the fault counter rises, and at fault rounds the key enters FAULT (3, R50). -/
theorem faultStep_eq (g : Globals) (member : Bool) (c : Channel) (kind : FaultKind) (k : KeyRecord) :
    faultStep g member c kind k =
      if min 15 (k.faultCount + 1) < g.faultRounds.toNat then ({ k with faultCount := min 15 (k.faultCount + 1) }, [])
      else
        ({ k with
            state := .fault, faultCount := min 15 (k.faultCount + 1), faultKind := kind, debounce := 0, release := 0,
            onDuration := 0, acc := Accumulator.empty, near := false },
          forcedRecords member 0x02 c k ++ [⟨.fault, idByte c, kind.code, 0⟩]) := by
  unfold faultStep
  simp only [moveKey_fault, upBefore_forced]
  by_cases h : min 15 (k.faultCount + 1) < g.faultRounds.toNat
  · rw [if_neg (not_le.2 h), if_pos h]
  · rw [if_pos (not_lt.1 h), if_neg h]
    rfl

/-- Settles O43: NOISY results and keys in FAULT by the branches of the channel step, OPEN and SHORT results by the fault
step. -/
theorem resultsThatAreNotValid : Obligations.ResultsThatAreNotValid := by
  refine fun g ch member r k => ⟨fun h => ?_, fun hv ho hf => ?_⟩
  · obtain h | h := h
    · exact channelStep_of_noisy g ch member k h
    · exact channelStep_of_fault_or_off g ch member r (.inl h)
  · intro count kind
    rw [channelStep_of_open_or_short g ch member hv ho hf, faultStep_eq]
    rfl

/-! ## The channel step of a VALID result by state (3, R42 to R47) -/

section

variable {k : KeyRecord} (g : Globals) (ch : ChannelConfig) (member : Bool) (c : Channel) (mean : Nat)

/-- The key with the fields that a VALID result sets first (3, R42). -/
def KeyRecord.counted (k : KeyRecord) (mean : Nat) : KeyRecord :=
  { k with lastCount := mean, faultCount := 0, lastDelta := (k.baseline : Int) - mean }

theorem validStep_idle (h : k.state = .idle) :
    validStep g ch member c mean k = idleStep g ch c mean ((k.baseline : Int) - mean) (k.counted mean) := by
  simp only [validStep, KeyRecord.counted, h]

theorem validStep_prox (h : k.state = .prox) :
    validStep g ch member c mean k = proxStep ch c ((k.baseline : Int) - mean) (k.counted mean) := by
  simp only [validStep, KeyRecord.counted, h]

theorem validStep_detect (h : k.state = .detect) :
    validStep g ch member c mean k = detectStep ch c ((k.baseline : Int) - mean) (k.counted mean) := by
  simp only [validStep, KeyRecord.counted, h]

theorem validStep_pressed (h : k.state = .pressed) :
    validStep g ch member c mean k = pressedStep ch member c ((k.baseline : Int) - mean) (k.counted mean) := by
  simp only [validStep, KeyRecord.counted, h]

theorem validStep_suppressed (h : k.state = .suppressed) :
    validStep g ch member c mean k = suppressedStep ch c ((k.baseline : Int) - mean) (k.counted mean) := by
  simp only [validStep, KeyRecord.counted, h]

end

/-- Settles O42: each state's own step on the key with the fields of R42 set, by the branches of its tests. -/
theorem validStepsByState : Obligations.ValidStepsByState := by
  intro g ch member c mean k d touch near below k₀ toProx toIdle toDetect toPressed up down keyUp o
  have ho : o = validStep g ch member c mean k := channelStep_of_valid g ch member c mean k
  have hup : goUp ch c k₀ = up := by
    have hone : ch.downDebounce = 1 ↔ ch.downDebounce.toNat = 1 := BitVec.toNat_eq
    simp only [goUp, hone, up]
    split <;> rfl
  have hdown (n : Nat) : goDown ch c d { k₀ with release := n } = down := by
    simp only [goDown, nearTest_iff, down]
    split
    · exact moveKey_prox c _
    · exact moveKey_idle c _
  refine ⟨fun hk => ?idle, fun hk => ?prox, fun hk => ?detect, fun hk => ?pressed, fun hk => ?suppressed⟩
  case idle =>
    have hstep : o = idleStep g ch c mean d k₀ := ho.trans (validStep_idle g ch member c mean hk)
    refine ⟨fun ht => ?_, fun ht hn => ?_⟩
    · rw [hstep, idleStep, if_pos ((touchTest_iff ch d).2 ht), hup]
    · rw [hstep, idleStep, if_neg fun h => ht ((touchTest_iff ch d).1 h), if_pos ((nearTest_iff ch d).2 hn)]
      exact moveKey_prox c k₀
  case prox =>
    have hstep : o = proxStep ch c d k₀ := ho.trans (validStep_prox g ch member c mean hk)
    simp only [hstep, proxStep, touchTest_iff, nearTest_iff, hup]
    rw [moveKey_idle]
    rfl
  case detect =>
    have hstep : o = detectStep ch c d k₀ := ho.trans (validStep_detect g ch member c mean hk)
    simp only [hstep, detectStep, touchTest_iff, moveKey_pressed, show goDown ch c d k₀ = down from hdown k₀.release]
    rfl
  case pressed =>
    have hstep : o = pressedStep ch member c d k₀ := ho.trans (validStep_pressed g ch member c mean hk)
    simp only [hstep, pressedStep, belowRelease_iff, hdown, upBefore_of_pressed member c .normal (k := k₀) hk]
    rfl
  case suppressed =>
    have hstep : o = suppressedStep ch c d k₀ := ho.trans (validStep_suppressed g ch member c mean hk)
    simp only [hstep, suppressedStep, belowRelease_iff, show goDown ch c d k₀ = down from hdown k₀.release]
    rfl

/-! ## Max-on (3, R51) -/

/-- The round is counted, or the key goes to CAL. -/
theorem maxOnStep_eq (ch : ChannelConfig) (member : Bool) (c : Channel) (k : KeyRecord) :
    maxOnStep ch member c k =
      if ch.maxOn.toNat ≠ 0 ∧ 16 * ch.maxOn.toNat ≤ min 4080 (k.onDuration + 1) then
        (k.atCal, forcedRecords member 0x01 c k)
      else ({ k with onDuration := min 4080 (k.onDuration + 1) }, []) := by
  have hzero : ch.maxOn = 0 ↔ ch.maxOn.toNat = 0 := BitVec.toNat_eq
  simp only [maxOnStep, Ne, hzero, moveKey_cal, upBefore_forced]
  rfl

/-- Settles O46: a key PRESSED before and after its channel step has the round counted, or goes to CAL. -/
theorem maxOnRecalibrates : Obligations.MaxOnRecalibrates := by
  intro cfg r k ch o count
  have hstage : keyStage cfg r k =
      if k.state = .pressed ∧ o.1.state = .pressed then
        ((maxOnStep ch (cfg.sliderMember r.channel) r.channel o.1).1,
          o.2 ++ (maxOnStep ch (cfg.sliderMember r.channel) r.channel o.1).2)
      else o := rfl
  rw [hstage, maxOnStep_eq, show min 4080 (o.1.onDuration + 1) = count from rfl]
  by_cases hmax : ch.maxOn.toNat ≠ 0 ∧ 16 * ch.maxOn.toNat ≤ count
  · simp only [if_pos hmax]
  · simp only [if_neg hmax, List.append_nil]

end Sys2Proof.Machine
end

section
/-! SUPPORT. The invariants of the part at the reset state: the starting point of those that every step keeps. -/

namespace Sys2Proof.Machine

/-- The default configuration passes every check (8, R137, R138). -/
theorem default_valid : Configuration.default.valid = true := by decide

theorem State.reset_linesRest : State.reset.LinesRest := by
  intro i
  have hl : State.reset.lines[i] = IndicatorLine.powerOn := by simp [State.reset]
  rw [hl]
  exact ⟨rfl, rfl⟩

/-- No group is touched and no key is PRESSED (3, R62; 5, R100). -/
theorem State.reset_groupsFit : State.reset.GroupsFit := by
  have hg (g : GroupId) : State.reset.groups[g] = GroupRun.cleared := by simp [State.reset]
  have hk (c : Channel) : State.reset.keys[c].state ≠ .pressed := by rw [State.reset_keys]; decide
  refine fun g => ⟨?_, fun _ c _ d _ hc => absurd hc (hk c)⟩
  simp only [State.GroupFits, hg, hk, GroupRun.cleared]
  simp

/-- Settles O4: each block's power-on values meet its invariant. -/
theorem invariantsAtReset : Obligations.InvariantsAtReset := by
  have hoff (c : Channel) : State.reset.keys[c].state = .off := by rw [State.reset_keys]; rfl
  refine ⟨?sound, fun c => iff_of_true (hoff c) (default_unlisted c), fun c => ?near,
    ⟨default_valid, fun _ h => by cases h⟩, State.reset_controlled, State.reset_engineFits.measuring,
    State.reset_engineFits.hops, State.reset_linesRest, State.reset_groupsFit,
    .of_quiet (.inl rfl) State.reset_quiet,
    (State.baselinesFit_iff _).2 ⟨fun c => .of_idle (.inl (hoff c)), .of_none rfl⟩⟩
  case sound =>
    unfold EventQueue.Sound
    decide
  case near =>
    rw [State.reset_keys]
    exact KeyRecord.powerOn_nearFits

end Sys2Proof.Machine
end

section
/-! SUPPORT. The evaluation of a result set (3, R41, R53 to R55; 5, R83): arbitrations work on the members of their own
group, and no channel is in two groups. -/

namespace Sys2Proof.Machine

/-! ## An arbitration reads and changes the members of its group -/

section

variable {members : List Channel} {prior keys keys' : Vector KeyRecord 24}

theorem membersIn_congr (h : ∀ c ∈ members, keys'[c] = keys[c]) (st : KeyState) :
    membersIn st members keys' = membersIn st members keys :=
  List.filter_congr fun c hc => by rw [h c hc]

theorem strongest_congr (h : ∀ c ∈ members, keys'[c] = keys[c]) : strongest keys' members = strongest keys members := by
  induction members with
  | nil => rfl
  | cons a rest ih =>
    have hrest := ih fun c hc => h c (List.mem_cons_of_mem a hc)
    unfold strongest
    rw [hrest]
    split
    · rfl
    next d hd => rw [h a List.mem_cons_self, h d (List.mem_cons_of_mem a (strongest_mem hd))]

theorem suppress_getElem (cs : List Channel) (keys : Vector KeyRecord 24) (c : Channel) :
    (suppress cs keys)[c] = if c ∈ cs then keys[c].enter .suppressed else keys[c] := by
  simp [suppress]

theorem suppress_of_not_mem {cs : List Channel} {c : Channel} (h : c ∉ cs) : (suppress cs keys)[c] = keys[c] := by
  rw [suppress_getElem, if_neg h]

theorem put_getElem {α : Type} {n : Nat} (v : Vector α n) (i j : Fin n) (x : α) :
    (put v i x)[j] = if j = i then x else v[j] := by
  simp

/-- Every other key is left alone (5, R83). -/
theorem arbitrate_of_not_mem {c : Channel} (h : c ∉ members) : (arbitrate members prior keys)[c] = keys[c] := by
  have hin (st : KeyState) : c ∉ membersIn st members keys := fun hc => h (List.mem_of_mem_filter hc)
  unfold arbitrate
  dsimp only
  split
  · exact suppress_of_not_mem fun hc => hin .pressed (List.mem_of_mem_filter hc)
  split
  · exact suppress_of_not_mem fun hc => hin .pressed (List.mem_of_mem_filter (List.mem_of_mem_filter hc))
  split
  next raised hr => rw [put_getElem, if_neg fun hc : c = raised => hin .suppressed (hc ▸ strongest_mem hr)]
  · rfl

/-- Only the members' keys count for the members (5, R83). -/
theorem arbitrate_congr (h : ∀ c ∈ members, keys'[c] = keys[c]) {c : Channel} (hc : c ∈ members) :
    (arbitrate members prior keys')[c] = (arbitrate members prior keys)[c] := by
  have hof {cs : List Channel} (hcs : ∀ d ∈ cs, d ∈ members) : strongest keys' cs = strongest keys cs :=
    strongest_congr fun d hd => h d (hcs d hd)
  have hpressed := membersIn_congr h .pressed
  have hsuppressed := membersIn_congr h .suppressed
  have hmem {st : KeyState} : ∀ d ∈ membersIn st members keys, d ∈ members := fun _ hd => List.mem_of_mem_filter hd
  unfold arbitrate
  dsimp only
  rw [hpressed, hsuppressed, hof fun d hd => hmem d (List.mem_of_mem_filter hd), hof hmem]
  split
  · rw [suppress_getElem, suppress_getElem, h c hc]
  split
  · rw [suppress_getElem, suppress_getElem, h c hc]
  split
  next raised hr =>
    rw [put_getElem, put_getElem, h c hc, h raised (hmem raised (strongest_mem hr))]
  · exact h c hc

end

/-! ## The group stage, channel by channel -/

section

variable {cfg : Configuration} {prior keys : Vector KeyRecord 24} {c : Channel}

/-- The channel is a member of the EXCLUSIVE group. -/
def Configuration.Arbitrates (cfg : Configuration) (g : GroupId) (c : Channel) : Prop :=
  cfg.groups[g].groupKind = .exclusive ∧ c ∈ cfg.groups[g].memberList

theorem groupKeys_of_exclusive {g : GroupId} (h : cfg.groups[g].groupKind = .exclusive) :
    groupKeys cfg prior keys g = arbitrate cfg.groups[g].memberList prior keys := by
  simp only [groupKeys, h]

theorem groupKeys_of_not_arbitrates {g : GroupId} (h : ¬ cfg.Arbitrates g c) :
    (groupKeys cfg prior keys g)[c] = keys[c] := by
  unfold groupKeys
  split
  next hg => exact arbitrate_of_not_mem fun hc => h ⟨hg, hc⟩
  all_goals rfl

/-- No channel is in two EXCLUSIVE groups of a valid configuration (8, R137, V13). -/
theorem arbitrates_unique (hv : cfg.valid = true) {g g' : GroupId} (h : cfg.Arbitrates g c)
    (h' : cfg.Arbitrates g' c) : g = g' := by
  have inGroup {g : GroupId} (h : cfg.Arbitrates g c) : cfg.InGroup g c := by
    obtain ⟨hkind, hmem⟩ := h
    refine ⟨fun hz => ?_, hmem⟩
    rw [(kind_zero_iff hv g).1 hz] at hkind
    cases hkind
  exact inGroup_unique hv (inGroup h) (inGroup h')

theorem foldl_groupKeys_of_not_arbitrates {gs : List GroupId} (h : ∀ g ∈ gs, ¬ cfg.Arbitrates g c) :
    (gs.foldl (groupKeys cfg prior) keys)[c] = keys[c] := by
  induction gs generalizing keys with
  | nil => rfl
  | cons a rest ih =>
    rw [List.foldl_cons, ih fun g hg => h g (List.mem_cons_of_mem a hg),
      groupKeys_of_not_arbitrates (h a List.mem_cons_self)]

/-- A member's key is that of its own group's arbitration, which the visits before leave the members' keys for. -/
theorem foldl_groupKeys_of_arbitrates (hv : cfg.valid = true) {g : GroupId} (h : cfg.Arbitrates g c)
    {gs : List GroupId} (hgs : gs.Nodup) (hg : g ∈ gs) :
    (gs.foldl (groupKeys cfg prior) keys)[c] = (arbitrate cfg.groups[g].memberList prior keys)[c] := by
  induction gs generalizing keys with
  | nil => cases hg
  | cons a rest ih =>
    obtain ⟨ha, hrest⟩ := List.nodup_cons.1 hgs
    rw [List.foldl_cons]
    obtain rfl | hg := List.mem_cons.1 hg
    · rw [foldl_groupKeys_of_not_arbitrates fun g' hg' h' => ha (arbitrates_unique hv h h' ▸ hg'),
        groupKeys_of_exclusive h.1]
    · rw [ih hrest hg]
      refine arbitrate_congr (fun d hd => groupKeys_of_not_arbitrates fun hda => ?_) h.2
      exact ha (arbitrates_unique hv ⟨h.1, hd⟩ hda ▸ hg)

theorem stageKeys_of_not_arbitrates (h : ∀ g, ¬ cfg.Arbitrates g c) : (stageKeys cfg prior keys)[c] = keys[c] :=
  foldl_groupKeys_of_not_arbitrates fun g _ => h g

theorem stageKeys_of_arbitrates (hv : cfg.valid = true) {g : GroupId} (h : cfg.Arbitrates g c) :
    (stageKeys cfg prior keys)[c] = (arbitrate cfg.groups[g].memberList prior keys)[c] :=
  foldl_groupKeys_of_arbitrates hv h (List.nodup_finRange 6) (List.mem_finRange g)

/-- An EXCLUSIVE group is touched while a member is PRESSED (5, R87). -/
theorem groupStage_touched {g : GroupId} (h : cfg.groups[g].groupKind = .exclusive) (run : GroupRun) :
    (groupStage cfg keys g run).1.touched = true ↔ ∃ c ∈ cfg.groups[g].memberList, keys[c].state = .pressed := by
  simp only [groupStage, h]
  simp [membersIn]

end

/-! ## The whole evaluation -/

theorem State.evaluate_groups (s : State) (results : List MeasResult) (g : GroupId) :
    (s.evaluate results).groups[g] = (groupStage s.live (s.evaluate results).keys g s.groups[g]).1 := by
  simp [State.evaluate]

theorem State.evaluate_queue (s : State) (results : List MeasResult) :
    (s.evaluate results).queue = s.queue.offerAll
      (s.live.scanList.flatMap (fun c =>
          (steppedKey s.live results c s.keys[c]).2 ++
            keyDownRecords s.live c s.keys[c] (s.evaluate results).keys[c])
        ++ allGroups.flatMap fun g => (groupStage s.live (s.evaluate results).keys g s.groups[g]).2) := by
  simp [State.evaluate]

/-- Settles O35: the steps of the keys, the arbitrations group by group, and the records. -/
theorem evaluationStepsKeysThenGroups : Obligations.EvaluationStepsKeysThenGroups := by
  intro s results hv e outcome stepped
  have hstepped : stepped = steppedKeys s.live results s.keys := rfl
  have hkeys : e.keys = stageKeys s.live s.keys stepped := s.evaluate_keys results
  refine ⟨fun c hc => ?unarbitrated, fun g hg => ⟨?touched, fun c hc => ?arbitrated⟩, s.evaluate_groups results,
    s.evaluate_queue results, ?frame⟩
  case unarbitrated =>
    rw [hkeys]
    exact stageKeys_of_not_arbitrates fun g ⟨hg, hm⟩ => hc g hg hm
  case touched =>
    rw [s.evaluate_groups results g]
    exact groupStage_touched hg _
  case arbitrated =>
    rw [hkeys]
    exact stageKeys_of_arbitrates hv ⟨hg, hc⟩
  case frame => simp [Keeps, e]

end Sys2Proof.Machine
end

section
/-! SUPPORT. What the register window shows (12, R181, R184): the byte a read sends, and the fields that each page lays
out. -/

namespace Sys2Proof.Machine

/-! ## The byte a read sends (12, R180, R183) -/

/-- The part with a page selected, the pointer at an address and the latch empty. -/
abbrev State.windowAt (s : State) (page address : Nat) : State :=
  s.withPort { s.port with page := BitVec.ofNat 8 page, pointer := BitVec.ofNat 8 address, latch := none }

theorem State.readField_sent {s : State} (h : s.port.latch = none) (f : LatchedField) (a : Byte) :
    (s.readField f a).port.sent = some (s.liveByte a) := by
  unfold State.readField
  split
  · rfl
  · rw [h]
    rfl

/-- With an empty latch a read outside the queue port sends the byte as it stands. -/
theorem State.readAt_sent {s : State} (h : s.port.latch = none) {a : Byte} (ha : a.toNat < 0x10 ∨ 0x13 < a.toNat) :
    (s.readAt a).port.sent = some (s.liveByte a) := by
  have hne {b : Byte} (hb : 0x10 ≤ b.toNat ∧ b.toNat ≤ 0x13) : a ≠ b := by
    rintro rfl
    omega
  unfold State.readAt
  rw [if_neg (hne (by decide)), if_neg (hne (by decide)), if_neg (hne (by decide)), if_neg (hne (by decide))]
  split
  · exact State.readField_sent h _ a
  · rfl

theorem exec_latchedFieldRead {s : State} (h : s.AnswersReads) :
    exec .latchedFieldRead s = .next (s.hostRead s.port.pointer) :=
  congrArg Host.Outcome.next (State.onBus_of_answersReads h _ _)

/-- A read of the window sends the value. -/
def State.Sends (s : State) (page address value : Nat) : Prop :=
  ∃ t, exec .latchedFieldRead (s.windowAt page address) = .next t ∧ t.port.sent = some (BitVec.ofNat 8 value)

section

variable {s : State} (h : s.AnswersReads) {page a value : Nat} (ha : a < 256)

include h ha

theorem State.sends_of_liveByte (hport : a < 0x10 ∨ 0x13 < a)
    (hv : (s.windowAt page a).liveByte (BitVec.ofNat 8 a) = BitVec.ofNat 8 value) : s.Sends page a value := by
  refine ⟨_, exec_latchedFieldRead (s := s.windowAt page a) h, ?_⟩
  have hn : (BitVec.ofNat 8 a).toNat = a := by simpa using ha
  rw [← hv]
  exact State.readAt_sent (s := s.windowAt page a) (a := BitVec.ofNat 8 a) rfl (by rw [hn]; exact hport)

/-- An address of the common region but for the queue port. -/
theorem State.sends_of_commonByte (hport : a < 0x10 ∨ 0x13 < a) (hc : a < 0x20)
    (hv : (s.windowAt page a).commonByte a = BitVec.ofNat 8 value) : s.Sends page a value := by
  have hn : (BitVec.ofNat 8 a).toNat = a := by simpa using ha
  refine State.sends_of_liveByte h ha hport ?_
  rw [State.liveByte, if_pos (by rwa [hn]), hn, hv]

/-- An address of a page. -/
theorem State.sends_of_pageByte (hp : page < 256) (hlow : 0x20 ≤ a) (hv : s.pageByte page a = BitVec.ofNat 8 value) :
    s.Sends page a value := by
  have hn : (BitVec.ofNat 8 a).toNat = a := by simpa using ha
  have hpage : (BitVec.ofNat 8 page).toNat = page := by simpa using hp
  refine State.sends_of_liveByte h ha (.inr (by omega)) ?_
  rw [State.liveByte, if_neg (by omega), hn, State.withPort_port, hpage]
  exact hv

end

end Sys2Proof.Machine
end

section
/-! SUPPORT. The layout of the pages (12, R184): each table of fields by offset and number, and where an entry stands. -/

namespace Sys2Proof.Machine

/-! ## Fields as numbers -/

theorem byteAt_eq {w : Nat} (v : BitVec w) (i : Nat) : byteAt v i = BitVec.ofNat 8 (v.toNat / 256 ^ i % 256) := by
  apply BitVec.eq_of_toNat_eq
  simp [byteAt, Nat.shiftRight_eq_div_pow, Nat.pow_mul]

theorem ofNat_toNat_byte (v : Byte) : BitVec.ofNat 8 v.toNat = v := by simp

theorem flagByte_eq (b : Bool) : flagByte b = BitVec.ofNat 8 (if b then 1 else 0) := by cases b <;> rfl

/-- The number of a key's state (3, R38). -/
def KeyState.number : KeyState → Nat
  | .off => 0
  | .cal => 1
  | .idle => 2
  | .prox => 3
  | .detect => 4
  | .pressed => 5
  | .suppressed => 6
  | .fault => 7

theorem KeyState.code_eq (k : KeyState) : k.code = BitVec.ofNat 8 k.number := by cases k <;> rfl

def FaultKind.number : FaultKind → Nat
  | .none => 0
  | .openCircuit => 1
  | .shorted => 2
  | .calUnstable => 3

theorem FaultKind.code_eq (k : FaultKind) : k.code = BitVec.ofNat 8 k.number := by cases k <;> rfl

def TrimStatus.number : TrimStatus → Nat
  | .none => 0
  | .ok => 1
  | .lowLimit => 2
  | .highLimit => 3
  | .failed => 4

theorem TrimStatus.code_eq (t : TrimStatus) : t.code = BitVec.ofNat 8 t.number := by cases t <;> rfl

def LineSource.number : LineSource → Nat
  | .off => 0
  | .host => 1
  | .key c => 0x40 + c.val
  | .group g => 0x80 + g.val

theorem LineSource.code_eq (l : LineSource) : l.code = BitVec.ofNat 8 l.number := by cases l <;> rfl

def Mode.number : Mode → Nat
  | .stopped => 0
  | .active => 1
  | .doze => 2
  | .trim => 3

def ResultCode.number : ResultCode → Nat
  | .none => 0
  | .pending => 1
  | .ok => 2
  | .wrongMode => 3
  | .emptyList => 4
  | .badArg => 5
  | .invalidConfig => 6
  | .aborted => 7
  | .nothingPending => 8
  | .unknownCmd => 9

theorem ResultCode.code_eq (r : ResultCode) : r.code = BitVec.ofNat 8 r.number := by cases r <;> rfl

def AttnMode.number : AttnMode → Nat
  | .off => 0
  | .level => 1
  | .pulse => 2

theorem AttnMode.code_eq (m : AttnMode) : m.code = BitVec.ofNat 8 m.number := by cases m <;> rfl

/-! ## Tables of fields -/

/-- A table of offsets below `n` and their numbers says what a reading by offset shows: 0 where it assigns nothing. -/
def Lays (n : Nat) (read : Nat → Option Byte) (table : List (Nat × Nat)) : Prop :=
  ∀ p ∈ table, p.1 < n ∧ (read p.1).getD 0 = BitVec.ofNat 8 p.2

/-- The global parameters (pages 0 and 8). -/
def Globals.table (g : Globals) : List (Nat × Nat) :=
  [(0x00, g.calSamples.toNat), (0x01, g.calSpread.toNat / 256 ^ 0 % 256), (0x02, g.calSpread.toNat / 256 ^ 1 % 256),
    (0x03, g.driftInterval.toNat), (0x04, g.driftStep.toNat), (0x05, g.negLimit.toNat), (0x06, g.negRounds.toNat),
    (0x07, g.noiseLimit.toNat / 256 ^ 0 % 256), (0x08, g.noiseLimit.toNat / 256 ^ 1 % 256), (0x09, g.hopSet.toNat),
    (0x0A, g.hopRetries.toNat), (0x0B, g.faultRounds.toNat), (0x0C, g.roundPeriod.toNat), (0x0D, g.dozePeriod.toNat),
    (0x0E, g.dozeAfter.toNat), (0x0F, g.targetLo.toNat / 256 ^ 0 % 256), (0x10, g.targetLo.toNat / 256 ^ 1 % 256),
    (0x11, g.targetHi.toNat / 256 ^ 0 % 256), (0x12, g.targetHi.toNat / 256 ^ 1 % 256)]

theorem Globals.lays (g : Globals) : Lays 32 g.read g.table := by
  simp [Lays, Globals.table, Globals.read, byteAt_eq]

theorem Globals.read_none (g : Globals) {off : Nat} (h : 19 ≤ off) : g.read off = none := by
  obtain ⟨n, rfl⟩ := Nat.exists_eq_add_of_le' h
  rfl

/-- A channel configuration (pages 1, 2, 9 and 10). -/
def ChannelConfig.table (ch : ChannelConfig) : List (Nat × Nat) :=
  [(0, ch.electrodes.toNat / 256 ^ 0 % 256), (1, ch.electrodes.toNat / 256 ^ 1 % 256),
    (2, ch.electrodes.toNat / 256 ^ 2 % 256), (3, ch.trim.toNat), (4, ch.burst.toNat),
    (5, ch.ceiling.toNat / 256 ^ 0 % 256), (6, ch.ceiling.toNat / 256 ^ 1 % 256), (7, ch.floor.toNat / 256 ^ 0 % 256),
    (8, ch.floor.toNat / 256 ^ 1 % 256), (9, ch.touch.toNat), (10, ch.release.toNat), (11, ch.prox.toNat),
    (12, ch.downDebounce.toNat), (13, ch.upDebounce.toNat), (14, ch.maxOn.toNat), (15, if ch.wake then 1 else 0)]

theorem ChannelConfig.lays (ch : ChannelConfig) : Lays 16 ch.read ch.table := by
  simp [Lays, ChannelConfig.table, ChannelConfig.read, byteAt_eq, flagByte_eq]

/-- A group definition but for its member entries (pages 3 and 11). -/
def GroupDef.table (d : GroupDef) : List (Nat × Nat) :=
  [(0, d.kind.toNat), (1, d.count.toNat), (10, d.moveThreshold.toNat)]

theorem GroupDef.lays (d : GroupDef) : Lays 16 d.read d.table := by
  simp [Lays, GroupDef.table, GroupDef.read]

theorem GroupDef.read_member (d : GroupDef) (i : Fin 8) : d.read (2 + i.val) = some d.members[i] := by
  have : 2 + i.val ≤ 9 := by omega
  simp [GroupDef.read, this, show 2 + i.val ≠ 1 by omega]

theorem GroupDef.read_none (d : GroupDef) {off : Nat} (h : 11 ≤ off) : d.read off = none := by
  rw [GroupDef.read, if_neg (by omega), if_neg (by omega), dif_neg (by omega), if_neg (by omega)]

theorem ScanEntries.read_entry (e : ScanEntries) (i : Fin 24) : e.read (1 + i.val) = some e.entries[i] := by
  have : 1 + i.val ≤ 24 := by omega
  simp [ScanEntries.read, this]

theorem ScanEntries.read_none (e : ScanEntries) {off : Nat} (h : 25 ≤ off) : e.read off = none := by
  rw [ScanEntries.read, if_neg (by omega), dif_neg (by omega)]

/-- A channel's live status (pages 4 and 5). -/
def KeyRecord.table (k : KeyRecord) (hop : Hop) : List (Nat × Nat) :=
  [(0, k.state.number), (1, if k.near then 1 else 0), (2, k.faultKind.number), (3, k.trimStatus.number), (4, hop.val),
    (5, k.baseline % 256), (6, k.baseline / 256 % 256), (7, k.lastCount % 256), (8, k.lastCount / 256 % 256),
    (9, (BitVec.ofInt 16 k.lastDelta).toNat / 256 ^ 0 % 256), (10, (BitVec.ofInt 16 k.lastDelta).toNat / 256 ^ 1 % 256)]

/-- The two bytes of a number that is shown modulo 65536. -/
theorem byteAt_ofNat (n : Nat) :
    byteAt (BitVec.ofNat 16 n) 0 = BitVec.ofNat 8 (n % 256) ∧
      byteAt (BitVec.ofNat 16 n) 1 = BitVec.ofNat 8 (n / 256 % 256) := by
  constructor <;> rw [byteAt_eq, BitVec.toNat_ofNat] <;> congr 1 <;> omega

theorem KeyRecord.lays (k : KeyRecord) (hop : Hop) : Lays 16 (keyStatus k hop) (k.table hop) := by
  simp [Lays, KeyRecord.table, keyStatus, byteAt_eq (.ofInt 16 _), byteAt_ofNat, flagByte_eq, KeyState.code_eq, FaultKind.code_eq,
    TrimStatus.code_eq, idByte]

theorem keyStatus_none (k : KeyRecord) (hop : Hop) {off : Nat} (h : 11 ≤ off) : keyStatus k hop off = none := by
  obtain ⟨n, rfl⟩ := Nat.exists_eq_add_of_le' h
  rfl

/-- A group's live status (page 5). -/
def GroupRun.table (r : GroupRun) : List (Nat × Nat) :=
  [(0, if r.touched then 1 else 0), (1, (r.position.getD 0).toNat), (2, (r.reported.getD 0).toNat), (3, 0)]

theorem GroupRun.lays (r : GroupRun) : Lays 4 (groupStatus r) r.table := by
  simp [Lays, GroupRun.table, groupStatus, flagByte_eq, shownPosition]

/-- An indicator line (page 6). -/
def IndicatorLine.table (l : IndicatorLine) : List (Nat × Nat) :=
  [(0, l.source.number), (1, if l.hostBit then 1 else 0), (2, l.onLevel.toNat), (3, l.offLevel.toNat),
    (4, l.fade.toNat), (5, (if l.dozeDark then 1 else 0) + 2 * (if l.invert then 1 else 0)), (6, l.level.toNat),
    (7, 0)]

theorem IndicatorLine.lays (l : IndicatorLine) : Lays 8 l.read l.table := by
  have hflags : bitAt l.dozeDark 0 ||| bitAt l.invert 1 =
      BitVec.ofNat 8 ((if l.dozeDark then 1 else 0) + 2 * (if l.invert then 1 else 0)) := by
    cases l.dozeDark <;> cases l.invert <;> rfl
  simp [Lays, IndicatorLine.table, IndicatorLine.read, flagByte_eq, LineSource.code_eq, hflags]

/-! ## Where an entry stands -/

theorem entryOffset_eq {n off : Nat} (h : off < 16) : entryOffset (0x20 + 16 * n + off) = off := by
  unfold entryOffset
  omega

theorem channelAt_eq {first off : Nat} (hf : first ≤ 12) (h : off < 16) {n : Nat} (hn : n < 12) :
    channelAt first (0x20 + 16 * n + off) = some ⟨first + n, by omega⟩ := by
  rw [channelAt, dif_pos (by omega)]
  congr 2
  omega

theorem channelAt_none {first a : Nat} (h : 0xE0 ≤ a) : channelAt first a = none := by
  rw [channelAt, dif_neg (by omega)]

theorem groupAt_eq (g : GroupId) {off : Nat} (h : off < 16) : groupAt (0x20 + 16 * g.val + off) = some g := by
  rw [groupAt, dif_pos (by omega)]
  congr
  omega

theorem groupAt_none {a : Nat} (h : 0x80 ≤ a) : groupAt a = none := by
  rw [groupAt, dif_neg (by omega)]

theorem groupStatusAt_eq (g : GroupId) {off : Nat} (h : off < 4) :
    groupStatusAt (0xE0 + 4 * g.val + off) = some g ∧ (0xE0 + 4 * g.val + off - 0xE0) % 4 = off := by
  refine ⟨?_, by omega⟩
  rw [groupStatusAt, dif_pos (by omega)]
  congr
  omega

theorem groupStatusAt_none {a : Nat} (h : a < 0xE0 ∨ 0xF8 ≤ a) : groupStatusAt a = none := by
  rw [groupStatusAt, dif_neg (by omega)]

theorem lineAt_eq (i : LineId) {off : Nat} (h : off < 8) :
    lineAt (0x20 + 8 * i.val + off) = some i ∧ (0x20 + 8 * i.val + off - 0x20) % 8 = off := by
  refine ⟨?_, by omega⟩
  rw [lineAt, dif_pos (by omega)]
  congr
  omega

theorem lineAt_none {a : Nat} (h : 0x60 ≤ a) : lineAt a = none := by
  rw [lineAt, dif_neg (by omega)]

end Sys2Proof.Machine
end

section
/-! SUPPORT. Every address of the window, page by page (12, R181, R184). -/

namespace Sys2Proof.Machine

/-! ## Regions of a page -/

/-- The `n` addresses of the page from `base` on show what a reading by offset gives, and 0 where it gives nothing. -/
def State.Shows (s : State) (page base n : Nat) (read : Nat → Option Byte) : Prop :=
  ∀ off, off < n → s.pageByte page (base + off) = (read off).getD 0

section

variable {s : State} {page base n : Nat} {read : Nat → Option Byte} (hs : s.Shows page base n read)
  (h : s.AnswersReads) (hp : page < 256) (hlow : 0x20 ≤ base) (hhigh : base + n ≤ 256)

include hs h hp hlow hhigh

theorem State.Shows.table {table : List (Nat × Nat)} (hl : Lays n read table) :
    ∀ p ∈ table, s.Sends page (base + p.1) p.2 := by
  intro p hmem
  obtain ⟨hoff, hv⟩ := hl p hmem
  exact State.sends_of_pageByte h (by omega) hp (by omega) ((hs p.1 hoff).trans hv)

theorem State.Shows.byte {off : Nat} {v : Byte} (hoff : off < n) (hv : read off = some v) :
    s.Sends page (base + off) v.toNat := by
  refine State.sends_of_pageByte h (by omega) hp (by omega) ((hs off hoff).trans ?_)
  rw [hv, ofNat_toNat_byte]
  rfl

theorem State.Shows.zero {m : Nat} (hz : ∀ off, m ≤ off → read off = none) :
    ∀ a, base + m ≤ a → a < base + n → s.Sends page a 0 := by
  intro a hfirst hbeyond
  obtain ⟨off, rfl⟩ := Nat.exists_eq_add_of_le (show base ≤ a by omega)
  refine State.sends_of_pageByte h (by omega) hp (by omega) ((hs off (by omega)).trans ?_)
  rw [hz off (by omega)]
  rfl

end

/-! ## The channel of an address -/

theorem channelAt_low {c : Channel} {off : Nat} (hc : c.val < 12) (hoff : off < 16) :
    channelAt 0 (0x20 + 16 * (c.val % 12) + off) = some c := by
  rw [channelAt_eq (by decide) hoff (Nat.mod_lt _ (by decide))]
  congr
  omega

theorem channelAt_high {c : Channel} {off : Nat} (hc : ¬ c.val < 12) (hoff : off < 16) :
    channelAt 12 (0x20 + 16 * (c.val % 12) + off) = some c := by
  rw [channelAt_eq (by decide) hoff (Nat.mod_lt _ (by decide))]
  congr
  omega

/-! ## A copy of the configuration (8, R134; 12, R184) -/

/-- The four pages from `first` on show the copy. -/
def State.Copies (s : State) (first : Nat) (cfg : Configuration) : Prop :=
  ∀ sub a, sub ≤ 3 → s.pageByte (first + sub) a = (cfg.read sub a).getD 0

theorem State.copies_staging (s : State) : s.Copies 0 s.store.staging := by
  intro sub a hsub
  rw [Nat.zero_add, State.pageByte, if_pos hsub]

theorem State.copies_live (s : State) : s.Copies 8 s.store.live := by
  intro sub a hsub
  rw [State.pageByte, if_neg (by omega), if_neg (by omega), if_neg (by omega), if_neg (by omega), if_pos (by omega),
    Nat.add_sub_cancel_left]

section

variable {s : State} {first : Nat} {cfg : Configuration} (hc : s.Copies first cfg)

include hc

theorem State.Copies.globals : s.Shows first 0x20 32 cfg.globals.read := by
  intro off hoff
  rw [← Nat.add_zero first, hc 0 _ (by decide), Configuration.read, if_neg (by omega), Nat.add_sub_cancel_left]

theorem State.Copies.scan : s.Shows first 0x40 192 cfg.scan.read := by
  intro off hoff
  rw [← Nat.add_zero first, hc 0 _ (by decide), Configuration.read, if_pos (by omega), Nat.add_sub_cancel_left]

theorem State.Copies.channel (c : Channel) :
    s.Shows (if c.val < 12 then first + 1 else first + 2) (0x20 + 16 * (c.val % 12)) 16 cfg.channels[c].read := by
  intro off hoff
  split
  next hlow =>
    rw [hc 1 _ (by decide), Configuration.read, channelAt_low hlow hoff, Option.bind_some, entryOffset_eq hoff]
  next hhigh =>
    rw [hc 2 _ (by decide), Configuration.read, channelAt_high hhigh hoff, Option.bind_some, entryOffset_eq hoff]

theorem State.Copies.channelsEnd {sub : Nat} (hsub : sub = 1 ∨ sub = 2) :
    s.Shows (first + sub) 0xE0 32 fun _ => none := by
  intro off _
  obtain rfl | rfl := hsub <;>
    rw [hc _ _ (by decide), Configuration.read, channelAt_none (by omega), Option.bind_none]

theorem State.Copies.group (g : GroupId) : s.Shows (first + 3) (0x20 + 16 * g.val) 16 cfg.groups[g].read := by
  intro off hoff
  rw [hc 3 _ (by decide), Configuration.read, groupAt_eq g hoff, Option.bind_some, entryOffset_eq hoff]

theorem State.Copies.groupsEnd : s.Shows (first + 3) 0x80 128 fun _ => none := by
  intro off _
  rw [hc 3 _ (by decide), Configuration.read, groupAt_none (by omega), Option.bind_none]

end

/-! ## The status pages and the indicator page -/

theorem State.shows_key (s : State) (c : Channel) :
    s.Shows (if c.val < 12 then 4 else 5) (0x20 + 16 * (c.val % 12)) 16 (keyStatus s.keys[c] s.engine.hop[c]) := by
  intro off hoff
  split
  next hlow =>
    rw [State.pageByte, if_neg (by decide), if_pos rfl, channelAt_low hlow hoff, Option.bind_some,
      entryOffset_eq hoff]
  next hhigh =>
    rw [State.pageByte, if_neg (by decide), if_neg (by decide), if_pos rfl, groupStatusAt_none (by omega),
      channelAt_high hhigh hoff]
    simp only [Option.bind_some, entryOffset_eq hoff]

theorem State.shows_keysEnd (s : State) : s.Shows 4 0xE0 32 fun _ => none := by
  intro off _
  rw [State.pageByte, if_neg (by decide), if_pos rfl, channelAt_none (by omega), Option.bind_none]

theorem State.shows_group (s : State) (g : GroupId) : s.Shows 5 (0xE0 + 4 * g.val) 4 (groupStatus s.groups[g]) := by
  intro off hoff
  obtain ⟨hat, hrest⟩ := groupStatusAt_eq g hoff
  rw [State.pageByte, if_neg (by decide), if_neg (by decide), if_pos rfl, hat, hrest]

theorem State.shows_groupsEnd (s : State) : s.Shows 5 0xF8 8 fun _ => none := by
  intro off _
  rw [State.pageByte, if_neg (by decide), if_neg (by decide), if_pos rfl, groupStatusAt_none (by omega),
    channelAt_none (by omega)]
  rfl

theorem State.shows_line (s : State) (i : LineId) : s.Shows 6 (0x20 + 8 * i.val) 8 s.lines[i].read := by
  intro off hoff
  obtain ⟨hat, hrest⟩ := lineAt_eq i hoff
  rw [State.pageByte, if_neg (by decide), if_neg (by decide), if_neg (by decide), if_pos rfl, hat, hrest,
    Option.bind_some]

theorem State.shows_linesEnd (s : State) : s.Shows 6 0x60 160 fun _ => none := by
  intro off _
  rw [State.pageByte, if_neg (by decide), if_neg (by decide), if_neg (by decide), if_pos rfl, lineAt_none (by omega),
    Option.bind_none]

/-- The pages that nothing is assigned on. -/
theorem State.shows_unassigned (s : State) {page : Nat} (hp : page = 7 ∨ 12 ≤ page) :
    s.Shows page 0x20 224 fun _ => none := by
  intro off _
  rw [State.pageByte, if_neg (by omega), if_neg (by omega), if_neg (by omega), if_neg (by omega), if_neg (by omega)]
  rfl

/-! ## The common region -/

theorem anyFault_iff (keys : Vector KeyRecord 24) : anyFault keys = true ↔ ∃ c : Channel, keys[c].state = .fault := by
  simp [anyFault, allChannels]

/-- STATUS as a number: four fields at positions of their own (12, R184). -/
theorem statusByte_eq (s : State) :
    statusByte s = BitVec.ofNat 8 (s.scan.mode.number + 4 * (if s.command.inProgress.isSome then 1 else 0) +
      (if s.queue.records = [] then 0 else 8) + (if ∃ c : Channel, s.keys[c].state = .fault then 16 else 0)) := by
  have hbits : ∀ (m : Mode) (busy empty fault : Bool),
      m.code ||| bitAt busy 2 ||| bitAt (!empty) 3 ||| bitAt fault 4 =
        BitVec.ofNat 8 (m.number + 4 * (if busy then 1 else 0) + (if empty then 0 else 8) +
          (if fault then 16 else 0)) := by
    intro m
    cases m <;> decide
  rw [statusByte, hbits, if_congr List.isEmpty_iff rfl rfl, if_congr (anyFault_iff _) rfl rfl, State.busy]

theorem stickyByte_eq (s : State) :
    stickyByte s = BitVec.ofNat 8 ((if s.scan.overrun then 1 else 0) + 2 * (if s.command.rejected then 1 else 0) +
      4 * (if s.port.writeIgnored then 1 else 0)) := by
  have hbits : ∀ a b c : Bool, bitAt a 0 ||| bitAt b 1 ||| bitAt c 2 =
      BitVec.ofNat 8 ((if a then 1 else 0) + 2 * (if b then 1 else 0) + 4 * (if c then 1 else 0)) := by decide
  exact hbits _ _ _

/-- The common region but for the queue port and the addresses that nothing is assigned at. -/
def State.commonTable (s : State) (page : Nat) : List (Nat × Nat) :=
  [(0x00, 0xD2), (0x01, 0x11),
    (0x02, s.scan.mode.number + 4 * (if s.command.inProgress.isSome then 1 else 0) +
      (if s.queue.records = [] then 0 else 8) + (if ∃ c : Channel, s.keys[c].state = .fault then 16 else 0)),
    (0x03, (if s.scan.overrun then 1 else 0) + 2 * (if s.command.rejected then 1 else 0) +
      4 * (if s.port.writeIgnored then 1 else 0)),
    (0x04, s.command.arg0.toNat), (0x05, s.command.arg1.toNat), (0x06, s.command.report.code.toNat),
    (0x07, s.command.report.result.number), (0x08, s.command.report.detail.toNat), (0x09, s.queue.records.length),
    (0x0A, s.queue.filter.toNat), (0x0B, s.queue.attnMode.number), (0x0C, s.scan.counter.toNat / 256 ^ 0 % 256),
    (0x0D, s.scan.counter.toNat / 256 ^ 1 % 256), (0x0E, s.scan.inactivity / 8), (0x0F, 0), (0x1F, page)]

theorem State.commonTable_lays (s : State) (page : Nat) :
    ∀ p ∈ s.commonTable page, (p.1 < 0x10 ∨ p.1 = 0x1F) ∧
      (s.windowAt page p.1).commonByte p.1 = BitVec.ofNat 8 p.2 := by
  have hstatus (a : Nat) : statusByte (s.windowAt page a) = statusByte s := rfl
  have hsticky (a : Nat) : stickyByte (s.windowAt page a) = stickyByte s := rfl
  simp [State.commonTable, State.commonByte, hstatus, hsticky, statusByte_eq, stickyByte_eq, ResultCode.code_eq,
    AttnMode.code_eq, byteAt_eq]

theorem State.sends_common {s : State} (h : s.AnswersReads) (page : Nat) :
    ∀ p ∈ s.commonTable page, s.Sends page p.1 p.2 := by
  intro p hp
  obtain ⟨ha, hv⟩ := s.commonTable_lays page p hp
  exact State.sends_of_commonByte h (by omega) (by omega) (by omega) hv

theorem State.sends_common_zero {s : State} (h : s.AnswersReads) (page : Nat) :
    ∀ a, 0x14 ≤ a → a < 0x1F → s.Sends page a 0 := by
  intro a hfirst hbeyond
  refine State.sends_of_commonByte h (by omega) (by omega) (by omega) ?_
  unfold State.commonByte
  (repeat rw [if_neg (by omega)])
  rfl

/-! ## The window -/

/-- Settles O30: the common region, then the pages region by region. -/
theorem windowShowsState : Obligations.WindowShowsState := by
  intro s h reads rows zero byte flag copy
  have hcopy {first : Nat} {cfg : Configuration} (hf : first ≤ 8) (hc : s.Copies first cfg) : copy first cfg := by
    refine ⟨hc.globals.table h (by omega) (by decide) (by decide) cfg.globals.lays,
      hc.globals.zero h (by omega) (by decide) (by decide) fun _ => cfg.globals.read_none,
      hc.scan.byte h (by omega) (by decide) (by decide) (off := 0) (by decide) rfl, fun i => ?entry,
      hc.scan.zero h (by omega) (by decide) (by decide) fun _ => cfg.scan.read_none, fun c => ?channel,
      (hc.channelsEnd (.inl rfl)).zero h (by omega) (by decide) (by decide) (m := 0) fun _ _ => rfl,
      (hc.channelsEnd (.inr rfl)).zero h (by omega) (by decide) (by decide) (m := 0) fun _ _ => rfl,
      fun g => ⟨?group, fun i => ?member, ?groupEnd⟩,
      hc.groupsEnd.zero h (by omega) (by decide) (by decide) (m := 0) fun _ _ => rfl⟩
    case entry =>
      have := hc.scan.byte h (by omega) (by decide) (by decide) (by omega) (cfg.scan.read_entry i)
      rwa [← Nat.add_assoc] at this
    case channel => exact (hc.channel c).table h (by split <;> omega) (by omega) (by omega) cfg.channels[c].lays
    case group => exact (hc.group g).table h (by omega) (by omega) (by omega) cfg.groups[g].lays
    case member =>
      have := (hc.group g).byte h (by omega) (by omega) (by omega) (by omega) (cfg.groups[g].read_member i)
      rwa [← Nat.add_assoc] at this
    case groupEnd => exact (hc.group g).zero h (by omega) (by omega) (by omega) fun _ => cfg.groups[g].read_none
  refine ⟨fun page hp => ⟨fun p hmem => ?common, s.sends_common_zero h page⟩, hcopy (by decide) s.copies_staging,
    hcopy (by decide) s.copies_live, fun c => ⟨?key, ?keyEnd⟩, ?keysEnd, fun g => ?group, ?groupsEnd, fun i => ?line,
    ?linesEnd, fun page hfree hp => ?free⟩
  case common =>
    rw [Nat.zero_add]
    exact State.sends_common h page p hmem
  case key =>
    exact (s.shows_key c).table h (by split <;> decide) (by omega) (by omega) (s.keys[c].lays _)
  case keyEnd =>
    exact (s.shows_key c).zero h (by split <;> decide) (by omega) (by omega) fun _ => keyStatus_none _ _
  case keysEnd => exact s.shows_keysEnd.zero h (by decide) (by decide) (by decide) (m := 0) fun _ _ => rfl
  case group => exact (s.shows_group g).table h (by decide) (by omega) (by omega) s.groups[g].lays
  case groupsEnd => exact s.shows_groupsEnd.zero h (by decide) (by decide) (by decide) (m := 0) fun _ _ => rfl
  case line => exact (s.shows_line i).table h (by decide) (by omega) (by omega) s.lines[i].lays
  case linesEnd => exact s.shows_linesEnd.zero h (by decide) (by decide) (by decide) (m := 0) fun _ _ => rfl
  case free => exact (s.shows_unassigned hfree).zero h hp (by decide) (by decide) (m := 0) fun _ _ => rfl

end Sys2Proof.Machine
end

section
/-! SUPPORT. The requests that an IDLE command unit ends at once (7, R124, R129; 4, R72), RECAL in STOPPED and ACTIVE
(4, R73 to R75), ABORT (7, R129), and a waiting RECAL at an evaluation (4, R75). -/

namespace Sys2Proof.Machine

/-! ## Requests of an IDLE unit -/

theorem State.commandRequest_of_idle {s : State} (h : s.Idle) (n : CommandName) :
    s.commandRequest n.code = s.takeCommand n := by
  obtain ⟨-, hreset, hwork⟩ := h
  simp [State.commandRequest, commandOf_code, State.busy, hreset, hwork]

theorem CommandName.isCommandCode_code (n : CommandName) : isCommandCode n.code = true := by cases n <;> decide

theorem commandOf_eq_none {code : Byte} (h : isCommandCode code = false) : commandOf code = none := by
  cases hn : commandOf code with
  | none => rfl
  | some n =>
    rw [commandOf_eq_some hn, n.isCommandCode_code] at h
    cases h

theorem State.commandRequest_of_unknown {s : State} (h : s.Idle) {code : Byte} (hc : isCommandCode code = false) :
    s.commandRequest code = s.endCommand code .unknownCmd 0 := by
  obtain ⟨-, hreset, hwork⟩ := h
  simp [State.commandRequest, commandOf_eq_none hc, State.busy, hreset, hwork]

/-- A byte written to CMD by which an IDLE unit ends the command and does nothing else (7, R124). -/
theorem exec_of_endCommand {s : State} {i : Instr} {code : Byte} {result : ResultCode} (h : s.Idle)
    (hi : writtenAt i = some (0x06, code)) (hr : s.commandRequest code = s.endCommand code result 0) :
    exec i s = .next ((s.endCommand code result 0).pointAfter 0x06 .write) := by
  rw [exec_of_writtenAt hi, State.onBus_of_answersAt h.1, State.hostWrite, State.writeAt_cmd, hr,
    State.driveFrom_quiet (by simp) (by simp) (by simp) (by simp)]

/-! ## Requests that end at once (7, R124, R129; 4, R72) -/

theorem State.dozeBlocked_iff (s : State) :
    s.dozeBlocked = true ↔
      ∃ c : Channel, s.live.listed c = true ∧ s.live.channels[c].wake = false ∧ s.keys[c].state = .cal := by
  simp [State.dozeBlocked, Configuration.nonWakeChannels, listed_iff_mem]

theorem channelOf_of_ge {b : Byte} (h : 24 ≤ b.toNat) : channelOf b = none :=
  dif_neg (by omega)

theorem channelOf_idByte : ∀ c : Channel, channelOf (idByte c) = some c := by decide

/-- A RECAL argument that names no channel and not the whole list (4, R72). -/
theorem recalTargets_of_badArg (cfg : Configuration) {arg : Byte} (h : 24 ≤ arg.toNat) (hall : arg ≠ 0xFF) :
    recalTargets cfg arg = none := by
  rw [recalTargets, if_neg hall, channelOf_of_ge h]

/-- A RECAL argument that names a channel out of the list (4, R72). -/
theorem recalTargets_of_unlisted {cfg : Configuration} {c : Channel} (h : cfg.listed c = false) :
    recalTargets cfg (idByte c) = some [] := by
  have hne : ∀ c : Channel, idByte c ≠ 0xFF := by decide
  rw [recalTargets, if_neg (hne c), channelOf_idByte]
  simp [h]

theorem resetKindOf_of_ge {arg : Byte} (h : 2 ≤ arg.toNat) : resetKindOf arg = none := by
  rw [resetKindOf, if_neg, if_neg] <;> rintro rfl <;> exact absurd h (by decide)

/-- The row of a request that ends at once is its byte at CMD, and the unit only ends the command. -/
theorem EndsAtOnce.request {s : State} {i : Instr} {code : Byte} {result : ResultCode} (hs : s.Idle)
    (h : EndsAtOnce s i code result) :
    writtenAt i = some (0x06, code) ∧ s.commandRequest code = s.endCommand code result 0 := by
  have htake (n : CommandName) : s.commandRequest n.code = s.takeCommand n := State.commandRequest_of_idle hs n
  cases i with
  | start =>
    obtain ⟨rfl, ⟨hm, rfl⟩ | ⟨hm, hl, rfl⟩⟩ := h
    · exact ⟨rfl, (htake .start).trans (if_pos hm)⟩
    · exact ⟨rfl, (htake .start).trans ((if_neg (not_not_intro hm)).trans (if_pos hl))⟩
  | stop =>
    obtain ⟨rfl, ha, hd, rfl⟩ := h
    exact ⟨rfl, (htake .stop).trans (if_neg (not_or.2 ⟨ha, hd⟩))⟩
  | recal =>
    have hrecal : s.commandRequest 0x04 = s.takeRecal := htake .recal
    unfold State.takeRecal at hrecal
    obtain ⟨rfl, ⟨hbad, hall, rfl⟩ | ⟨hall, hl, rfl⟩ | ⟨c, hc, hl, rfl⟩⟩ := h
    · rw [recalTargets_of_badArg s.live hbad hall] at hrecal
      exact ⟨rfl, hrecal⟩
    · rw [recalTargets_of (.inl ⟨hall, rfl⟩), hl] at hrecal
      exact ⟨rfl, hrecal⟩
    · rw [hc, recalTargets_of_unlisted hl] at hrecal
      exact ⟨rfl, hrecal⟩
  | trim =>
    obtain ⟨rfl, ⟨hm, rfl⟩ | ⟨hm, hl, rfl⟩⟩ := h
    · exact ⟨rfl, (htake .trim).trans (if_pos hm)⟩
    · exact ⟨rfl, (htake .trim).trans ((if_neg (not_not_intro hm)).trans (if_pos hl))⟩
  | doze =>
    obtain ⟨rfl, rfl, hblocked⟩ := h
    rw [← State.dozeBlocked_iff] at hblocked
    exact ⟨rfl, (htake .doze).trans (if_pos hblocked)⟩
  | wake =>
    obtain ⟨rfl, hm, rfl⟩ := h
    exact ⟨rfl, (htake .wake).trans (if_pos hm)⟩
  | abort =>
    obtain ⟨rfl, rfl⟩ := h
    have habort : s.commandRequest 0x09 = s.takeAbort := htake .abort
    rw [State.takeAbort, hs.noWork] at habort
    exact ⟨rfl, habort⟩
  | reset =>
    obtain ⟨rfl, harg, rfl⟩ := h
    have hreset : s.commandRequest 0x0A = s.takeReset := htake .reset
    rw [State.takeReset, resetKindOf_of_ge harg] at hreset
    exact ⟨rfl, hreset⟩
  | unknownCmd c =>
    obtain ⟨rfl, hc, rfl⟩ := h
    exact ⟨rfl, State.commandRequest_of_unknown hs hc⟩
  | _ => exact h.elim

/-- Settles O6: the command unit only ends the command. -/
theorem requestsThatEndAtOnce : Obligations.RequestsThatEndAtOnce := by
  intro s i code result hidle hends
  obtain ⟨hrow, hrequest⟩ := hends.request hidle
  refine ⟨_, exec_of_endCommand hidle hrow hrequest, ?command, ?queue, ?port, ?frame⟩
  case command => simp [hidle.noWork]
  case queue => simp [cmdDoneRecord]
  case port => simp
  case frame => simp [Keeps]

/-! ## RECAL in STOPPED and ACTIVE (4, R73 to R75) -/

theorem State.recalKeys_of_stopped {s : State} (h : s.scan.mode = .stopped) (targets : List Channel) :
    s.recalKeys targets = (s.sendToCal targets).endCommand 0x04 .ok 0 := by
  rw [State.recalKeys, h]
  rfl

theorem State.recalKeys_of_active {s : State} (h : s.scan.mode = .active) (targets : List Channel) :
    s.recalKeys targets = (s.sendToCal targets).enterBusy .recal (.recal targets 0) := by
  rw [State.recalKeys, h]

/-- Settles O11: the targets in CAL and their groups after them, then the end of the command or the wait. -/
theorem recalSendsTargetsToCal : Obligations.RecalSendsTargetsToCal := by
  intro s targets hidle hmode htargets hne
  have hexec := exec_command_idle (i := .recal) (n := .recal) hidle rfl
  rw [State.takeCommand, State.takeRecal_of_targets hne htargets] at hexec
  have hfollow : GroupsFollow s (s.sendToCal targets) := s.forceKeys_groupsFollow targets (recalKey s.live) .normal
  have hkeys := s.sendToCal_keys targets
  have hqueue := s.sendToCal_queue targets
  obtain hstopped | hactive := hmode
  · rw [State.recalKeys_of_stopped hstopped] at hexec
    refine ⟨_, hexec, fun c => ?_, hfollow.congr ?_ ?_, State.driveFrom_follows ?_, ?queue, ?_, ?_, ?_⟩
    case queue => simp [hqueue, hstopped, EventQueue.offerAll_append, cmdDoneRecord, ResultCode.code]
    all_goals simp [hkeys, hstopped, hidle.noWork, Keeps]
  · rw [State.recalKeys_of_active hactive] at hexec
    refine ⟨_, hexec, fun c => ?_, hfollow.congr ?_ ?_, State.driveFrom_follows ?_, ?_, ?_, ?_, ?_⟩ <;>
      simp [hkeys, hqueue, hactive, CommandName.code, Keeps]

/-! ## ABORT (7, R129) -/

/-- ABORT is taken in IDLE and BUSY (7, R123). -/
theorem exec_abort {s : State} (h : s.Takes) :
    exec .abort s = .next (State.driveFrom s (s.takeAbort.pointAfter 0x06 .write)) :=
  congrArg Host.Outcome.next (State.commandByte_taken (n := .abort) h (.inr rfl))

@[simp] theorem State.leaveBusy_command (s : State) :
    s.leaveBusy.command = { s.command with inProgress := none } := rfl

/-- ABORT of a command whose end moves nothing the lines follow. -/
theorem exec_abort_quiet {s u : State} (h : s.Takes) (hu : s.takeAbort = u) (hl : u.lines = s.lines)
    (hk : u.keys = s.keys) (hg : u.groups = s.groups) (hm : u.scan = s.scan) :
    exec .abort s = .next (u.pointAfter 0x06 .write) := by
  rw [exec_abort h, hu, State.driveFrom_quiet (by simpa) (by simpa) (by simpa) (by simp [hm])]

section

variable {s : State} {a b : Byte}

theorem State.takeAbort_commit (h : s.command.inProgress = some ⟨.commit, a, b⟩) :
    s.takeAbort = ((s.withStore { s.store with snapshot := none }).leaveBusy).endCommand 0x03 .aborted 0 := by
  rw [State.takeAbort, h]
  rfl

theorem State.takeAbort_recal {waiting : List Channel} {faulted : Nat}
    (h : s.command.inProgress = some ⟨.recal waiting faulted, a, b⟩) :
    s.takeAbort = s.leaveBusy.endCommand 0x04 .aborted (BitVec.ofNat 8 waiting.length) := by
  rw [State.takeAbort, h]
  rfl

theorem State.takeAbort_trim (h : s.command.inProgress = some ⟨.trim, a, b⟩) :
    s.takeAbort = s.cancelTrim.leaveBusy.endCommand 0x05 .aborted 0 := by
  rw [State.takeAbort, h]
  rfl

end

/-- Settles O17, by the command that ABORT ends. -/
theorem abortEndsCommand : Obligations.AbortEndsCommand := by
  intro s work a b htakes hwork
  cases work with
  | commit =>
    refine ⟨_, exec_abort_quiet htakes (State.takeAbort_commit hwork) ?_ ?_ ?_ ?_, ?_, ?_, ?_, ?_, ?_⟩ <;>
      simp [CommandUnit.reporting, cmdDoneRecord, ResultCode.code, Keeps]
  | recal waiting faulted =>
    refine ⟨_, exec_abort_quiet htakes (State.takeAbort_recal hwork) ?_ ?_ ?_ ?_, ?_, ?_, ?_, ?_⟩ <;>
      simp [CommandUnit.reporting, cmdDoneRecord, ResultCode.code, Keeps]
  | trim =>
    have hexec := exec_abort htakes
    rw [State.takeAbort_trim hwork] at hexec
    refine ⟨_, hexec, ?_, ?_, ?_, ?_, ?_, ?_, State.driveFrom_follows ?_, ?_⟩ <;>
      simp [State.cancelTrim, State.abandonMeasurement, CommandUnit.reporting, modeRecord, cmdDoneRecord, Mode.code,
        ModeCause.code, ResultCode.code, Keeps]

/-! ## A waiting RECAL at an evaluation (4, R75) -/

/-- Settles O36, by whether a target is still in CAL. -/
theorem recalWaitsForKeys : Obligations.RecalWaitsForKeys := by
  intro s waiting faulted a b results hwork _ e t still count
  have hcommand : e.command = s.command := by simp [e]
  have hunit : e.command.afterEvaluation e.keys =
      if still = [] then
        ({ s.command.reporting 0x04 .ok (BitVec.ofNat 8 count) with inProgress := none },
          [⟨.cmdDone, 0x04, 0x02, BitVec.ofNat 8 count⟩])
      else ({ s.command with inProgress := some ⟨.recal still count, a, b⟩ }, []) := by
    rw [hcommand, CommandUnit.afterEvaluation, hwork]
  have ht : t = (e.withCommand (e.command.afterEvaluation e.keys).1).offerAll (e.command.afterEvaluation e.keys).2 :=
    e.advanceRecal_eq
  refine ⟨by simp [t], by simp [t], fun hstill => ?waits, fun hstill => ?ends⟩
  case waits =>
    rw [if_neg hstill] at hunit
    simp [ht, hunit]
  case ends =>
    rw [if_pos hstill] at hunit
    simp [ht, hunit]

end Sys2Proof.Machine
end

section
/-! SUPPORT. The step of a VALID result of a key in CAL, and of a key that stays in IDLE (3, R42, R48; 4, R63 to
R70). -/

namespace Sys2Proof.Machine

/-! ## Calibration (4, R63 to R65) -/

section

variable {g : Globals} {k : KeyRecord} (c : Channel)

/-- The attempt succeeds (4, R64). -/
theorem endAttempt_of_steady (hn : k.near = false) (h : k.acc.largest - k.acc.smallest ≤ g.calSpread.toNat) :
    endAttempt g c k =
      ({ k with
          state := .idle, baseline := k.acc.sum / k.acc.samples, acc := Accumulator.empty, debounce := 0, release := 0,
          onDuration := 0, negative := 0 },
        [⟨.calDone, idByte c, 0, BitVec.ofNat 8 k.acc.attempt⟩]) := by
  rw [endAttempt, if_pos h, moveKey_idle]
  simp only [KeyRecord.atIdle, hn]
  rfl

/-- The first two failures start the calibration over (4, R65). -/
theorem endAttempt_of_retry (h : g.calSpread.toNat < k.acc.largest - k.acc.smallest) (ha : k.acc.attempt < 3) :
    endAttempt g c k = ({ k with acc := { Accumulator.empty with attempt := k.acc.attempt + 1 } }, []) := by
  rw [endAttempt, if_neg (not_le.2 h), if_pos ha]

/-- The third failure sends the key to FAULT (4, R65). -/
theorem endAttempt_of_third (hn : k.near = false) (h : g.calSpread.toNat < k.acc.largest - k.acc.smallest)
    (ha : 3 ≤ k.acc.attempt) :
    endAttempt g c k =
      ({ k with
          state := .fault, faultKind := .calUnstable, acc := Accumulator.empty, debounce := 0, release := 0,
          onDuration := 0 },
        [⟨.calDone, idByte c, 1, 3⟩, ⟨.fault, idByte c, 3, 0⟩]) := by
  rw [endAttempt, if_neg (not_le.2 h), if_neg (not_lt.2 ha), moveKey_fault]
  simp only [hn]
  rfl

/-- However an attempt ends, the next one begins without samples (4, R64, R65). -/
theorem endAttempt_acc (g : Globals) (c : Channel) (k : KeyRecord) :
    (endAttempt g c k).1.acc.sum = 0 ∧ (endAttempt g c k).1.acc.samples = 0 := by
  unfold endAttempt
  split
  · rw [moveKey_idle]
    exact ⟨rfl, rfl⟩
  split
  · exact ⟨rfl, rfl⟩
  · rw [moveKey_fault]
    exact ⟨rfl, rfl⟩

end

/-- A VALID result of a key in CAL: a sample, and the end of the attempt where it is the last (4, R63). -/
theorem channelStep_cal (g : Globals) (ch : ChannelConfig) (member : Bool) (c : Channel) (mean : Nat) {k : KeyRecord}
    (h : k.state = .cal) :
    channelStep g ch member ⟨c, .valid, mean⟩ k =
      let sampled : KeyRecord :=
        { k with lastCount := mean, faultCount := 0, lastDelta := 0, acc := k.acc.add mean }
      if g.calSamples.toNat ≤ (k.acc.add mean).samples then endAttempt g c sampled else (sampled, []) := by
  rw [channelStep_of_valid]
  simp only [validStep, h]
  rfl

/-- Settles O44, by whether the sample is the attempt's last, its spread, and the number of the attempt. -/
theorem calibrationAttempts : Obligations.CalibrationAttempts := by
  intro g ch member c mean k hcal hnear acc full spread o k₀
  have hstep := channelStep_cal g ch member c mean hcal
  refine ⟨rfl, rfl, rfl, rfl, rfl, fun hf => ?sample, fun hf => ?emptied, fun hf hs => ?succeeds,
    fun hf hs ha => ?retries, fun hf hs ha => ?fails⟩
  case sample =>
    have ho := hstep.trans (if_neg hf)
    exact ⟨by simp only [k₀, o, ho], congrArg (·.1.acc) ho⟩
  all_goals have hend := hstep.trans (if_pos hf)
  case emptied =>
    rw [show o = _ from hend]
    exact endAttempt_acc g c _
  case succeeds =>
    have ho : o = _ := hend.trans (endAttempt_of_steady c hnear hs)
    exact ⟨by simp only [k₀, ho]; rfl, by rw [ho]; rfl⟩
  case retries =>
    have ho : o = _ := hend.trans (endAttempt_of_retry c hs ha)
    exact ⟨by simp only [k₀, ho], by rw [ho]; rfl⟩
  case fails =>
    have ho : o = _ := hend.trans (endAttempt_of_third c hnear hs ha)
    exact ⟨by simp only [k₀, ho], by rw [ho]; rfl⟩

/-! ## Drift and rebase (4, R68 to R70) -/

/-- Drift moves a baseline down to the mean by at most the step (4, R68). -/
theorem driftToward_down {baseline mean : Nat} (step : Nat) (h : mean ≤ baseline) :
    mean ≤ driftToward baseline mean step ∧
      baseline - driftToward baseline mean step = min step (baseline - mean) := by
  unfold driftToward
  split <;> omega

/-- Drift moves a baseline up to the mean by at most the step (4, R68). -/
theorem driftToward_up {baseline mean : Nat} (step : Nat) (h : baseline ≤ mean) :
    driftToward baseline mean step ≤ mean ∧
      driftToward baseline mean step - baseline = min step (mean - baseline) := by
  rw [driftToward, if_neg (not_lt.2 h)]
  omega

section

variable {g : Globals} {d : Int} {k : KeyRecord} (c : Channel) (mean : Nat)

/-- At neg rounds the key is rebased (4, R69, R70). -/
theorem quietStep_of_rebase (hn : g.negRounds.toNat ≤ negativeAfter g d k) :
    quietStep g c mean d k =
      ({ k with baseline := mean, lastDelta := 0, drift := 0, negative := 0 }, [⟨.rebase, idByte c, 0, 0⟩]) :=
  if_pos hn

/-- Before neg rounds, at the drift interval, the baseline drifts (4, R68). -/
theorem quietStep_of_due (hn : negativeAfter g d k < g.negRounds.toNat) (hd : g.driftInterval.toNat ≤ k.drift + 1) :
    quietStep g c mean d k =
      ({ k with
          negative := negativeAfter g d k, drift := 0,
          baseline := driftToward k.baseline mean g.driftStep.toNat }, []) :=
  (if_neg (not_le.2 hn)).trans (congrArg (·, []) (if_pos hd))

/-- Before neg rounds and the drift interval, the round is counted (4, R68). -/
theorem quietStep_of_early (hn : negativeAfter g d k < g.negRounds.toNat)
    (hd : ¬ g.driftInterval.toNat ≤ k.drift + 1) :
    quietStep g c mean d k = ({ k with negative := negativeAfter g d k, drift := k.drift + 1 }, []) :=
  (if_neg (not_le.2 hn)).trans (congrArg (·, []) (if_neg hd))

end

/-- A VALID result of a key that stays in IDLE (3, R43). -/
theorem channelStep_quiet {g : Globals} {ch : ChannelConfig} {member : Bool} {c : Channel} {mean : Nat} {k : KeyRecord}
    (h : k.state = .idle) (ht : (k.baseline : Int) - mean < (ch.touch.toNat : Int))
    (hp : ch.prox.toNat = 0 ∨ (k.baseline : Int) - mean < (ch.prox.toNat : Int)) :
    channelStep g ch member ⟨c, .valid, mean⟩ k =
      quietStep g c mean ((k.baseline : Int) - mean) (k.counted mean) := by
  have htouch : ¬ touchTest ch ((k.baseline : Int) - mean) = true := by
    rw [touchTest_iff]
    omega
  have hnear : ¬ nearTest ch ((k.baseline : Int) - mean) = true := by
    rw [nearTest_iff]
    omega
  rw [channelStep_of_valid, validStep_idle g ch member c mean h, idleStep, if_neg htouch, if_neg hnear]

/-- Settles O45: the rebase, or the drift step before and at the drift interval. -/
theorem driftAndRebase : Obligations.DriftAndRebase := by
  intro g ch member c mean k hidle d htouch hprox negative drifts o
  have hquiet : o = quietStep g c mean d (k.counted mean) := channelStep_quiet hidle htouch hprox
  refine ⟨fun hn => hquiet.trans (quietStep_of_rebase c mean hn), fun hn => ?_⟩
  by_cases hd : drifts
  · have hstep := hquiet.trans (quietStep_of_due (k := k.counted mean) c mean hn hd)
    have hbaseline : o.1.baseline = driftToward k.baseline mean g.driftStep.toNat := congrArg (·.1.baseline) hstep
    rw [hbaseline, if_pos hd]
    exact ⟨hstep, fun h => absurd hd h, fun _ => driftToward_down _, fun _ => driftToward_up _⟩
  · have hstep := hquiet.trans (quietStep_of_early (k := k.counted mean) c mean hn hd)
    have hbaseline : o.1.baseline = k.baseline := congrArg (·.1.baseline) hstep
    rw [hbaseline, if_neg hd]
    exact ⟨hstep, fun _ => rfl, fun h => absurd h hd, fun h => absurd h hd⟩

end Sys2Proof.Machine
end

section
/-! SUPPORT. The arbitration of an EXCLUSIVE group (5, R84 to R87): who keeps PRESSED, who is suppressed, who is
raised. -/

namespace Sys2Proof.Machine

/-! ## The strongest of a list (5, R85, R86) -/

section

variable {members cs : List Channel} {prior keys : Vector KeyRecord 24} {c d w : Channel}

theorem strongest_eq_none : strongest keys cs = none ↔ cs = [] := by
  cases cs with
  | nil => simp [strongest]
  | cons a rest =>
    simp only [strongest, reduceCtorEq, iff_false]
    (repeat' split) <;> simp

theorem exists_strongest (h : cs ≠ []) : ∃ w, strongest keys cs = some w :=
  Option.ne_none_iff_exists'.1 fun hs => h (strongest_eq_none.1 hs)

/-- `c` is chosen over `d`: by the larger last delta, or at the lower member index on a tie. -/
def Beats (members : List Channel) (keys : Vector KeyRecord 24) (c d : Channel) : Prop :=
  keys[d].lastDelta < keys[c].lastDelta ∨
    (keys[d].lastDelta = keys[c].lastDelta ∧ members.idxOf c ≤ members.idxOf d)

theorem Beats.refl (c : Channel) : Beats members keys c c := .inr ⟨rfl, le_rfl⟩

theorem Beats.antisymm (hc : c ∈ members) (h : Beats members keys c d) (h' : Beats members keys d c) : c = d := by
  refine (List.idxOf_inj hc).1 ?_
  unfold Beats at h h'
  omega

/-- The members stand in the order of their indices. -/
theorem pairwise_idxOf (h : members.Nodup) : members.Pairwise fun a b => members.idxOf a < members.idxOf b := by
  rw [List.pairwise_iff_getElem]
  intro i j hi hj hij
  rwa [h.idxOf_getElem, h.idxOf_getElem]

/-- The strongest of channels in member order beats them all. -/
theorem strongest_beats (ho : cs.Pairwise fun a b => members.idxOf a < members.idxOf b)
    (hw : strongest keys cs = some w) : ∀ d ∈ cs, Beats members keys w d := by
  induction cs generalizing w with
  | nil => cases hw
  | cons a rest ih =>
    obtain ⟨hfirst, hrest⟩ := List.pairwise_cons.1 ho
    unfold strongest at hw
    cases hs : strongest keys rest with
    | none =>
      rw [hs] at hw
      obtain rfl := Option.some.inj hw
      obtain rfl := strongest_eq_none.1 hs
      simp [Beats.refl]
    | some e =>
      have hbest := ih hrest hs
      rw [hs] at hw
      dsimp only at hw
      split at hw <;> obtain rfl := Option.some.inj hw
      next hlt => exact List.forall_mem_cons.2 ⟨.inl hlt, hbest⟩
      next hge =>
        refine List.forall_mem_cons.2 ⟨.refl a, fun d hd => ?_⟩
        have hd' := hbest d hd
        have hidx := hfirst d hd
        unfold Beats at hd' ⊢
        omega

/-- Among channels in member order, the strongest is the one that beats them all. -/
theorem eq_strongest_iff (hn : members.Nodup) (hs : cs.Sublist members) (hw : strongest keys cs = some w)
    (hc : c ∈ cs) : c = w ↔ ∀ d ∈ cs, Beats members keys c d := by
  have hbest := strongest_beats ((pairwise_idxOf hn).sublist hs) hw
  constructor
  · rintro rfl
    exact hbest
  · intro h
    exact Beats.antisymm (hs.subset hc) (h w (strongest_mem hw)) (hbest c hc)

/-! ## The arbitration, case by case (5, R84 to R86) -/

/-- The members that were PRESSED before the round and still are (5, R84). -/
def incumbents (members : List Channel) (prior keys : Vector KeyRecord 24) : List Channel :=
  (membersIn .pressed members keys).filter fun c => prior[c].state == .pressed

/-- The members that have become PRESSED in the round (5, R84). -/
def candidates (members : List Channel) (prior keys : Vector KeyRecord 24) : List Channel :=
  (membersIn .pressed members keys).filter fun c => prior[c].state != .pressed

theorem mem_membersIn {st : KeyState} : c ∈ membersIn st members keys ↔ c ∈ members ∧ keys[c].state = st := by
  simp [membersIn]

theorem mem_incumbents :
    c ∈ incumbents members prior keys ↔ c ∈ members ∧ prior[c].state = .pressed ∧ keys[c].state = .pressed := by
  simp [incumbents, membersIn]

theorem mem_candidates :
    c ∈ candidates members prior keys ↔ c ∈ members ∧ prior[c].state ≠ .pressed ∧ keys[c].state = .pressed := by
  simp [candidates, membersIn]

/-- A PRESSED member is an incumbent or a candidate. -/
theorem mem_incumbents_or_candidates (hc : c ∈ members) (hp : keys[c].state = .pressed) :
    c ∈ incumbents members prior keys ∨ c ∈ candidates members prior keys := by
  rw [mem_incumbents, mem_candidates]
  tauto

theorem arbitrate_of_incumbent (h : incumbents members prior keys ≠ []) :
    arbitrate members prior keys = suppress (candidates members prior keys) keys :=
  if_pos h

theorem arbitrate_of_candidate (hi : incumbents members prior keys = [])
    (hw : strongest keys (candidates members prior keys) = some w) :
    arbitrate members prior keys = suppress ((candidates members prior keys).filter (· != w)) keys := by
  unfold incumbents at hi
  unfold candidates at hw ⊢
  simp only [arbitrate, hi, hw, ne_eq, not_true_eq_false, if_false]

theorem arbitrate_of_suppressed (hi : incumbents members prior keys = []) (hc : candidates members prior keys = [])
    (hw : strongest keys (membersIn .suppressed members keys) = some w) :
    arbitrate members prior keys = put keys w (keys[w].enter .pressed) := by
  unfold incumbents at hi
  unfold candidates at hc
  simp only [arbitrate, hi, hc, hw, strongest, ne_eq, not_true_eq_false, if_false]

theorem arbitrate_of_none (hi : incumbents members prior keys = []) (hc : candidates members prior keys = [])
    (hw : membersIn .suppressed members keys = []) : arbitrate members prior keys = keys := by
  unfold incumbents at hi
  unfold candidates at hc
  simp only [arbitrate, hi, hc, hw, strongest, ne_eq, not_true_eq_false, if_false]

/-- The ways an arbitration ends: an incumbent stays, a candidate wins, a SUPPRESSED member is raised, or none is there
(5, R84 to R86). -/
inductive Arbitration (members : List Channel) (prior keys : Vector KeyRecord 24) : Prop
  | stays (hi : incumbents members prior keys ≠ [])
      (ha : arbitrate members prior keys = suppress (candidates members prior keys) keys)
  | won (w : Channel) (hi : incumbents members prior keys = [])
      (hw : strongest keys (candidates members prior keys) = some w)
      (ha : arbitrate members prior keys = suppress ((candidates members prior keys).filter (· != w)) keys)
  | raised (w : Channel) (hi : incumbents members prior keys = []) (hc : candidates members prior keys = [])
      (hw : strongest keys (membersIn .suppressed members keys) = some w)
      (ha : arbitrate members prior keys = put keys w (keys[w].enter .pressed))
  | idle (hi : incumbents members prior keys = []) (hc : candidates members prior keys = [])
      (hw : membersIn .suppressed members keys = []) (ha : arbitrate members prior keys = keys)

theorem arbitrate_cases (members : List Channel) (prior keys : Vector KeyRecord 24) :
    Arbitration members prior keys := by
  by_cases hi : incumbents members prior keys = []
  case neg => exact .stays hi (arbitrate_of_incumbent hi)
  cases hc : strongest keys (candidates members prior keys) with
  | some w => exact .won w hi hc (arbitrate_of_candidate hi hc)
  | none =>
    have hc := strongest_eq_none.1 hc
    cases hw : strongest keys (membersIn .suppressed members keys) with
    | some w => exact .raised w hi hc hw (arbitrate_of_suppressed hi hc hw)
    | none =>
      have hw := strongest_eq_none.1 hw
      exact .idle hi hc hw (arbitrate_of_none hi hc hw)

/-- A key that is neither a candidate nor a SUPPRESSED member is left alone. -/
theorem arbitrate_of_not_contender (hc : c ∉ candidates members prior keys)
    (hw : c ∉ membersIn .suppressed members keys) : (arbitrate members prior keys)[c] = keys[c] := by
  cases arbitrate_cases members prior keys with
  | stays _ ha => rw [ha, suppress_of_not_mem hc]
  | won w _ _ ha => rw [ha, suppress_of_not_mem fun h => hc (List.mem_of_mem_filter h)]
  | raised w _ _ hr ha => rw [ha, put_getElem, if_neg fun e : c = w => hw (e ▸ strongest_mem hr)]
  | idle _ _ _ ha => rw [ha]

/-- No SUPPRESSED member is raised while a member is PRESSED (5, R86). -/
theorem arbitrate_of_suppressed_of_pressed (hd : d ∈ members) (hp : keys[d].state = .pressed)
    (hs : keys[c].state = .suppressed) : (arbitrate members prior keys)[c] = keys[c] := by
  have hc : c ∉ candidates members prior keys := fun h => by
    obtain ⟨-, -, hkey⟩ := mem_candidates.1 h
    cases hs.symm.trans hkey
  have hpressed := mem_incumbents_or_candidates (prior := prior) hd hp
  cases arbitrate_cases members prior keys with
  | stays _ ha => rw [ha, suppress_of_not_mem hc]
  | won w _ _ ha => rw [ha, suppress_of_not_mem fun h => hc (List.mem_of_mem_filter h)]
  | raised w hi hcs => simp [hi, hcs] at hpressed
  | idle hi hcs => simp [hi, hcs] at hpressed

/-- A key PRESSED after the suppression of some channels was PRESSED before, and is of none of them. -/
theorem pressed_of_suppress (h : (suppress cs keys)[c].state = .pressed) : keys[c].state = .pressed ∧ c ∉ cs := by
  rw [suppress_getElem] at h
  split at h
  · cases h
  next hc => exact ⟨h, hc⟩

/-- With at most one incumbent, at most one member is left PRESSED (5, R87). -/
theorem arbitrate_onePressed
    (hone : ∀ c d, c ∈ incumbents members prior keys → d ∈ incumbents members prior keys → c = d)
    (hc : c ∈ members) (hd : d ∈ members) (hpc : (arbitrate members prior keys)[c].state = .pressed)
    (hpd : (arbitrate members prior keys)[d].state = .pressed) : c = d := by
  have pressed {e : Channel} (he : e ∈ members) (h : keys[e].state = .pressed) :=
    mem_incumbents_or_candidates (prior := prior) he h
  cases arbitrate_cases members prior keys with
  | stays hi ha =>
    rw [ha] at hpc hpd
    obtain ⟨hpc, hnc⟩ := pressed_of_suppress hpc
    obtain ⟨hpd, hnd⟩ := pressed_of_suppress hpd
    exact hone c d ((pressed hc hpc).resolve_right hnc) ((pressed hd hpd).resolve_right hnd)
  | won w hi hw ha =>
    have winner {e : Channel} (he : e ∈ members) (h : (arbitrate members prior keys)[e].state = .pressed) : e = w := by
      rw [ha] at h
      obtain ⟨hpe, hne⟩ := pressed_of_suppress h
      have hcand : e ∈ candidates members prior keys := (pressed he hpe).resolve_left (by simp [hi])
      simpa [hcand] using hne
    rw [winner hc hpc, winner hd hpd]
  | raised w hi hcand hw ha =>
    have winner {e : Channel} (he : e ∈ members) (h : (arbitrate members prior keys)[e].state = .pressed) : e = w := by
      by_contra hne
      rw [ha, put_getElem, if_neg hne] at h
      simpa [hi, hcand] using pressed he h
    rw [winner hc hpc, winner hd hpd]
  | idle hi hcand hw ha =>
    rw [ha] at hpc
    simpa [hi, hcand] using pressed hc hpc

end

/-- Settles O47: each clause by the way the arbitration ends. -/
theorem exclusiveArbitration : Obligations.ExclusiveArbitration := by
  intro members prior keys hn after incumbent candidate waiting beats suppressed raised
  have hinc (c : Channel) : incumbent c ↔ c ∈ incumbents members prior keys := mem_incumbents.symm
  have hcand (c : Channel) : candidate c ↔ c ∈ candidates members prior keys := mem_candidates.symm
  have hwait (c : Channel) : waiting c ↔ c ∈ membersIn .suppressed members keys := mem_membersIn.symm
  have hnone {cs : List Channel} (h : ¬ ∃ c, c ∈ cs) : cs = [] := List.eq_nil_iff_forall_not_mem.2 (not_exists.1 h)
  simp only [hinc, hcand, hwait]
  refine ⟨fun c hc => ?stays, fun ⟨i, hi⟩ c hc => ?out, fun hi c hc => ?wins, fun hi hcs c hc => ?raises,
    fun ⟨d, hp, hd⟩ c hc => ?waits, fun c _ hc hw => arbitrate_of_not_contender hc hw,
    fun h c hc d hd => arbitrate_onePressed h hc hd⟩
  case stays =>
    obtain ⟨-, hprior, hkey⟩ := mem_incumbents.1 hc
    refine arbitrate_of_not_contender (fun h => ?_) fun h => ?_
    · obtain ⟨-, hnew, -⟩ := mem_candidates.1 h
      exact hnew hprior
    · cases (mem_membersIn.1 h).2.symm.trans hkey
  case out =>
    have ha := arbitrate_of_incumbent (List.ne_nil_of_mem hi)
    show (arbitrate members prior keys)[c] = keys[c].enter .suppressed
    rw [ha, suppress_getElem, if_pos hc]
  case wins =>
    obtain ⟨w, hw⟩ := exists_strongest (keys := keys) (List.ne_nil_of_mem hc)
    have hbest : c = w ↔ ∀ d, d ∈ candidates members prior keys → beats c d :=
      eq_strongest_iff hn (List.filter_sublist.trans List.filter_sublist) hw hc
    show (arbitrate members prior keys)[c] = if _ then keys[c] else keys[c].enter .suppressed
    rw [arbitrate_of_candidate (hnone hi) hw, suppress_getElem]
    by_cases hcw : c = w
    · rw [if_pos (hbest.1 hcw), if_neg (by simp [hcw])]
    · rw [if_neg fun h => hcw (hbest.2 h), if_pos (by simp [hc, hcw])]
  case raises =>
    obtain ⟨w, hw⟩ := exists_strongest (keys := keys) (List.ne_nil_of_mem hc)
    have hbest : c = w ↔ ∀ d, d ∈ membersIn .suppressed members keys → beats c d :=
      eq_strongest_iff hn List.filter_sublist hw hc
    show (arbitrate members prior keys)[c] = if _ then keys[c].enter .pressed else keys[c]
    rw [arbitrate_of_suppressed (hnone hi) (hnone hcs) hw, put_getElem]
    by_cases hcw : c = w
    · rw [if_pos (hbest.1 hcw), if_pos hcw, hcw]
    · rw [if_neg fun h => hcw (hbest.2 h), if_neg hcw]
  case waits => exact arbitrate_of_suppressed_of_pressed hd hp (mem_membersIn.1 hc).2

end Sys2Proof.Machine
end

section
/-! SUPPORT. The positions of SLIDER and WHEEL groups (5, R88 to R90). -/

namespace Sys2Proof.Machine

/-! ## SLIDER (5, R89) -/

theorem weightedSum_eq (j : Nat) (ws : List Nat) :
    weightedSum j ws = ((ws.zipIdx j).map fun p => p.2 * p.1).sum := by
  induction ws generalizing j with
  | nil => rfl
  | cons w rest ih => simp [weightedSum, ih]

/-- No weight stands further than at the last index. -/
theorem weightedSum_le {j last : Nat} {ws : List Nat} (h : j + ws.length ≤ last + 1) :
    weightedSum j ws ≤ last * ws.sum := by
  induction ws generalizing j with
  | nil => simp [weightedSum]
  | cons w rest ih =>
    rw [List.length_cons] at h
    have hrest := ih (j := j + 1) (by omega)
    have hfirst : j * w ≤ last * w := Nat.mul_le_mul_right w (by omega)
    rw [weightedSum, List.sum_cons, Nat.mul_add]
    omega

/-- With one member touched the whole weight stands at its index. -/
theorem weightedSum_of_single {k j : Nat} {ws : List Nat} (hz : ∀ i, i < ws.length → i ≠ j → ws.getD i 0 = 0) :
    weightedSum k ws = (k + j) * ws.sum := by
  induction ws generalizing k j with
  | nil => simp [weightedSum]
  | cons w rest ih =>
    rw [weightedSum, List.sum_cons]
    cases j with
    | zero =>
      have hrest : rest.sum = 0 := by
        refine List.sum_eq_zero fun x hx => ?_
        obtain ⟨i, hi, rfl⟩ := List.getElem_of_mem hx
        simpa [hi] using hz (i + 1) (by simpa using hi) (by simp)
      have hle := weightedSum_le (j := k + 1) (last := k + rest.length) (ws := rest) (by omega)
      rw [hrest, Nat.mul_zero, Nat.le_zero] at hle
      rw [hle, hrest]
      rfl
    | succ j =>
      have hw : w = 0 := by simpa using hz 0 (by simp) (by simp)
      have hrest := ih (k := k + 1) (j := j) fun i hi hij => by
        simpa using hz (i + 1) (by simpa using hi) (by simpa using hij)
      rw [hrest, hw, Nat.mul_zero, Nat.zero_add, Nat.zero_add, Nat.add_right_comm, Nat.add_assoc]

section

variable {ws : List Nat}

theorem sliderPosition_le (h : 0 < ws.length) : sliderPosition ws ≤ 255 := by
  refine Nat.div_le_of_le_mul ?_
  rw [Nat.mul_comm _ 255]
  exact Nat.mul_le_mul_left 255 (weightedSum_le (by omega))

theorem sliderPosition_of_single (hs : 0 < ws.sum) {j : Nat}
    (hz : ∀ i, i < ws.length → i ≠ j → ws.getD i 0 = 0) : sliderPosition ws = 255 * j / (ws.length - 1) := by
  rw [sliderPosition, weightedSum_of_single hz, Nat.zero_add, ← Nat.mul_assoc]
  exact Nat.mul_div_mul_right _ _ hs

/-! ## WHEEL (5, R90) -/

/-- The first largest weight, by its index. -/
theorem peak_eq {k i : Nat} (hi : i < ws.length) (hmax : ∀ j, j < ws.length → ws.getD j 0 ≤ ws.getD i 0)
    (hfirst : ∀ j, j < i → ws.getD j 0 < ws.getD i 0) : (peak k ws).1 = k + i := by
  induction ws generalizing k i with
  | nil => cases hi
  | cons w rest ih =>
    cases i with
    | zero =>
      have hall : rest.all (· ≤ w) = true := by
        simp only [List.all_eq_true, decide_eq_true_iff]
        intro x hx
        obtain ⟨j, hj, rfl⟩ := List.getElem_of_mem hx
        simpa [hj] using hmax (j + 1) (by simpa using hj)
      simp [peak, hall]
    | succ i =>
      have hi : i < rest.length := by simpa using hi
      have hlater : ¬ rest.all (· ≤ w) = true := by
        have hw := hfirst 0 (by simp)
        simp only [List.getD_cons_zero, List.getD_cons_succ, List.getD_eq_getElem _ _ hi] at hw
        simp only [List.all_eq_true, decide_eq_true_iff]
        exact fun hall => absurd (hall _ (List.getElem_mem hi)) (not_le.2 hw)
      rw [peak, if_neg hlater, ih hi (fun j hj => ?_) fun j hj => ?_]
      · omega
      · simpa using hmax (j + 1) (by simpa using hj)
      · simpa using hfirst (j + 1) (by omega)

/-- The neighbour before on the ring. -/
theorem before_mod {i n : Nat} (hi : i < n) : (i + n - 1) % n = if i = 0 then n - 1 else i - 1 := by
  split
  next h => rw [h, Nat.zero_add, Nat.mod_eq_of_lt (by omega)]
  next h => rw [show i + n - 1 = i - 1 + n by omega, Nat.add_mod_right, Nat.mod_eq_of_lt (by omega)]

/-- The neighbour after on the ring. -/
theorem after_mod {i n : Nat} (hi : i < n) : (i + 1) % n = if i + 1 = n then 0 else i + 1 := by
  split
  next h => rw [h, Nat.mod_self]
  next h => exact Nat.mod_eq_of_lt (by omega)

theorem wheelPosition_lt (ws : List Nat) : wheelPosition ws < 256 := Nat.mod_lt _ (by decide)

/-- The place on the ring of a peak at `i` of `n`, with the weights `a`, `b` and `c` (5, R90, steps 2 to 4). -/
def ringPosition (n i a b c : Nat) : Nat :=
  let t := a + b + c
  let q : Int := 256 * ((i * t : Nat) + (c : Int) - (a : Int))
  let q' : Int := if q < 0 then q + 256 * n * t else q
  (q' / ((n * t : Nat) : Int)).toNat % 256

theorem ringPosition_forward {n i a b c : Nat} (h : a ≤ i * (a + b + c) + c) :
    ringPosition n i a b c = 256 * (i * (a + b + c) + c - a) / (n * (a + b + c)) % 256 := by
  have hq : (256 * ((i * (a + b + c) : Nat) + (c : Int) - (a : Int)) : Int)
      = ((256 * (i * (a + b + c) + c - a) : Nat) : Int) := by
    push_cast [Nat.cast_sub h]
    ring
  simp only [ringPosition]
  rw [hq, if_neg (by omega), ← Int.natCast_div, Int.toNat_natCast]

theorem ringPosition_wrapped {n i a b c : Nat} (hn : 0 < n) (h : i * (a + b + c) + c < a) :
    ringPosition n i a b c =
      256 * (n * (a + b + c) + i * (a + b + c) + c - a) / (n * (a + b + c)) % 256 := by
  have hround : a + b + c ≤ n * (a + b + c) := Nat.le_mul_of_pos_left _ hn
  have hq : (256 * ((i * (a + b + c) : Nat) + (c : Int) - (a : Int)) + 256 * n * (a + b + c : Nat) : Int)
      = ((256 * (n * (a + b + c) + i * (a + b + c) + c - a) : Nat) : Int) := by
    push_cast [Nat.cast_sub (show a ≤ n * (a + b + c) + i * (a + b + c) + c by omega)]
    ring
  simp only [ringPosition]
  rw [if_pos (by omega), hq, ← Int.natCast_div, Int.toNat_natCast]

/-- The position of a WHEEL, by its peak and the neighbours. -/
theorem wheelPosition_eq {i : Nat} (hi : i < ws.length) (hmax : ∀ j, j < ws.length → ws.getD j 0 ≤ ws.getD i 0)
    (hfirst : ∀ j, j < i → ws.getD j 0 < ws.getD i 0) :
    wheelPosition ws =
      ringPosition ws.length i (ws.getD (if i = 0 then ws.length - 1 else i - 1) 0) (ws.getD i 0)
        (ws.getD (if i + 1 = ws.length then 0 else i + 1) 0) := by
  have hpeak : (peak 0 ws).1 = i := (peak_eq hi hmax hfirst).trans (Nat.zero_add i)
  simp only [wheelPosition, hpeak, before_mod hi, after_mod hi]
  rfl

/-- The largest of weights that are not all 0 is above 0. -/
theorem pos_of_largest {i : Nat} (hs : 0 < ws.sum) (hmax : ∀ j, j < ws.length → ws.getD j 0 ≤ ws.getD i 0) :
    0 < ws.getD i 0 := by
  by_contra hz
  refine hs.ne' (List.sum_eq_zero fun x hx => ?_)
  obtain ⟨j, hj, rfl⟩ := List.getElem_of_mem hx
  have := hmax j hj
  rw [List.getD_eq_getElem _ _ hj] at this
  omega

end

/-- Settles O48: the weighted mean of the SLIDER, and the ring of the WHEEL around its peak. -/
theorem groupPositions : Obligations.GroupPositions := by
  constructor
  · refine fun ws hlen hsum => ⟨sliderPosition_le (by omega), ?_, fun j _ hz => sliderPosition_of_single hsum hz⟩
    rw [sliderPosition, weightedSum_eq]
  · intro ws i _ hsum hi hmax hfirst n a b c total
    have hw : wheelPosition ws = ringPosition n i a b c := wheelPosition_eq hi hmax hfirst
    have hb : 0 < b := pos_of_largest hsum hmax
    have htotal : 0 < total := Nat.add_pos_left (Nat.add_pos_right a hb) c
    exact ⟨htotal, wheelPosition_lt ws, fun h => hw.trans (ringPosition_forward h),
      fun h => hw.trans (ringPosition_wrapped (Nat.zero_lt_of_lt hi) h)⟩

end Sys2Proof.Machine
end

section
/-! SUPPORT. The group stage of a SLIDER or WHEEL group (5, R91 to R94). -/

namespace Sys2Proof.Machine

section

variable {d : GroupDef} {keys : Vector KeyRecord 24}

theorem membersIn_pressed_ne_nil :
    membersIn .pressed d.memberList keys ≠ [] ↔ ∃ c ∈ d.memberList, keys[c].state = .pressed := by
  simp [membersIn]

/-- A group that has a position is a SLIDER or a WHEEL. -/
theorem groupStage_of_hasPosition {cfg : Configuration} {g : GroupId} (h : cfg.groups[g].hasPosition = true)
    (keys : Vector KeyRecord 24) (run : GroupRun) :
    groupStage cfg keys g run = positionStage g cfg.groups[g] keys run := by
  simp only [GroupDef.hasPosition, Bool.or_eq_true, beq_iff_eq] at h
  obtain h | h := h <;> simp only [groupStage, h]

variable (g : GroupId) {run : GroupRun}

/-- The position that the group computes (5, R91). -/
def GroupDef.positionFrom (d : GroupDef) (keys : Vector KeyRecord 24) (old : Option Byte) : Option Byte :=
  newPosition d.groupKind (weights keys d.memberList) old

theorem positionStage_of_touch (hp : ∃ c ∈ d.memberList, keys[c].state = .pressed) (ht : run.touched = false) :
    positionStage g d keys run =
      (⟨true, d.positionFrom keys run.position, d.positionFrom keys run.position⟩,
        [groupTouchRecord g (shownPosition (d.positionFrom keys run.position))]) := by
  simp only [positionStage, if_pos (membersIn_pressed_ne_nil.2 hp), ht, if_true, GroupDef.positionFrom]

theorem positionStage_of_move (hp : ∃ c ∈ d.memberList, keys[c].state = .pressed) (ht : run.touched = true)
    (hm : d.moveThreshold.toNat ≤
      positionDistance d.groupKind (shownPosition (d.positionFrom keys run.position)) (shownPosition run.reported)) :
    positionStage g d keys run =
      (⟨true, d.positionFrom keys run.position, d.positionFrom keys run.position⟩,
        [groupMoveRecord g (shownPosition (d.positionFrom keys run.position))]) := by
  unfold GroupDef.positionFrom at hm ⊢
  simp only [positionStage, if_pos (membersIn_pressed_ne_nil.2 hp), ht, Bool.true_eq_false, if_false, if_pos hm]

theorem positionStage_of_rest (hp : ∃ c ∈ d.memberList, keys[c].state = .pressed) (ht : run.touched = true)
    (hm : ¬ d.moveThreshold.toNat ≤
      positionDistance d.groupKind (shownPosition (d.positionFrom keys run.position)) (shownPosition run.reported)) :
    positionStage g d keys run = (⟨true, d.positionFrom keys run.position, run.reported⟩, []) := by
  unfold GroupDef.positionFrom at hm ⊢
  simp only [positionStage, if_pos (membersIn_pressed_ne_nil.2 hp), ht, Bool.true_eq_false, if_false, if_neg hm]

theorem positionStage_of_release (hp : ¬ ∃ c ∈ d.memberList, keys[c].state = .pressed) (ht : run.touched = true) :
    positionStage g d keys run =
      (GroupRun.cleared, [groupReleaseRecord g (shownPosition run.position) .normal]) := by
  simp only [positionStage, if_neg fun h => hp (membersIn_pressed_ne_nil.1 h), ht, if_true]

theorem positionStage_of_untouched (hp : ¬ ∃ c ∈ d.memberList, keys[c].state = .pressed)
    (ht : run.touched = false) : positionStage g d keys run = (run, []) := by
  simp only [positionStage, if_neg fun h => hp (membersIn_pressed_ne_nil.1 h), ht, Bool.false_eq_true, if_false]

end

/-- The distance of two positions, circular for a WHEEL (5, R93). -/
theorem positionDistance_eq (kind : GroupKind) (p q : Byte) :
    positionDistance kind p q =
      if kind = .wheel then min (p.toNat - q.toNat + (q.toNat - p.toNat))
        (256 - (p.toNat - q.toNat + (q.toNat - p.toNat)))
      else p.toNat - q.toNat + (q.toNat - p.toNat) := by
  have hd : max p.toNat q.toNat - min p.toNat q.toNat = p.toNat - q.toNat + (q.toNat - p.toNat) := by omega
  simp only [positionDistance, hd]

/-- Settles O49: the branches of the stage, by whether the group is pressed, touched and has moved. -/
theorem groupTouchMoveRelease : Obligations.GroupTouchMoveRelease := by
  intro cfg keys g run hpos d pressed ws p apart distance
  have hdistance : positionDistance d.groupKind (shownPosition p) (shownPosition run.reported) = distance :=
    positionDistance_eq _ _ _
  rw [groupStage_of_hasPosition hpos]
  refine ⟨positionStage_of_touch g, fun hp ht hm => positionStage_of_move g hp ht (hdistance ▸ hm), fun hp ht hm => ?_,
    positionStage_of_release g, positionStage_of_untouched g⟩
  exact positionStage_of_rest g hp ht (hdistance ▸ not_le.2 hm)

end Sys2Proof.Machine
end

section
/-! SUPPORT. Group records that fit their keys (5, R81, R87): what the group stage, forced transitions and installs make
of them. -/

namespace Sys2Proof.Machine

/-! ## Records and keys (5, R81) -/

/-- A member of the group is PRESSED. -/
def GroupDef.Pressed (d : GroupDef) (keys : Vector KeyRecord 24) : Prop := ∃ c ∈ d.memberList, keys[c].state = .pressed

/-- `State.GroupFits` of one record, over the definition of its group and the keys. -/
def GroupRun.Fits (run : GroupRun) (d : GroupDef) (keys : Vector KeyRecord 24) : Prop :=
  (run.touched = true ↔ d.groupKind ≠ .none ∧ d.Pressed keys) ∧
  (run.position.isSome = true ↔ d.hasPosition = true ∧ run.touched = true) ∧
  (run.reported.isSome = true ↔ d.hasPosition = true ∧ run.touched = true)

/-- `State.OnePressed`, over the definition of a group and the keys. -/
def GroupDef.OnePressed (d : GroupDef) (keys : Vector KeyRecord 24) : Prop :=
  d.groupKind = .exclusive →
    ∀ c ∈ d.memberList, ∀ e ∈ d.memberList, keys[c].state = .pressed → keys[e].state = .pressed → c = e

theorem State.groupsFit_iff (s : State) :
    s.GroupsFit ↔
      ∀ g : GroupId, s.groups[g].Fits s.live.groups[g] s.keys ∧ s.live.groups[g].OnePressed s.keys :=
  Iff.rfl

/-- Every key PRESSED after was PRESSED before. -/
def FewerPressed (keys keys' : Vector KeyRecord 24) : Prop :=
  ∀ c : Channel, keys'[c].state = .pressed → keys[c].state = .pressed

section

variable {d : GroupDef} {keys keys' : Vector KeyRecord 24} {run : GroupRun}

theorem GroupDef.hasPosition_iff : d.hasPosition = true ↔ d.groupKind = .slider ∨ d.groupKind = .wheel := by
  simp [GroupDef.hasPosition]

/-- A group that has a position is of a kind, and not EXCLUSIVE. -/
theorem GroupDef.kind_of_hasPosition (h : d.hasPosition = true) :
    d.groupKind ≠ .none ∧ d.groupKind ≠ .exclusive := by
  obtain h | h := GroupDef.hasPosition_iff.1 h <;> simp [h]

theorem GroupDef.Pressed.mono (hf : FewerPressed keys keys') (h : d.Pressed keys') : d.Pressed keys := by
  obtain ⟨c, hc, hp⟩ := h
  exact ⟨c, hc, hf c hp⟩

theorem GroupDef.OnePressed.mono (h : d.OnePressed keys) (hf : FewerPressed keys keys') : d.OnePressed keys' :=
  fun hk c hc e he hpc hpe => h hk c hc e he (hf c hpc) (hf e hpe)

theorem GroupDef.onePressed_of_unpressed (h : ¬ d.Pressed keys) : d.OnePressed keys :=
  fun _ c hc _ _ hp => absurd ⟨c, hc, hp⟩ h

theorem GroupDef.onePressed_of_none (h : d.groupKind = .none) : d.OnePressed keys :=
  fun hk => by rw [h] at hk; cases hk

theorem GroupRun.cleared_fits (h : d.groupKind = .none ∨ ¬ d.Pressed keys) : GroupRun.cleared.Fits d keys := by
  have hnot : ¬ (d.groupKind ≠ .none ∧ d.Pressed keys) := by tauto
  simp [GroupRun.Fits, GroupRun.cleared, hnot]

/-- A record goes on fitting while the same groups are pressed. -/
theorem GroupRun.Fits.of_pressed (h : run.Fits d keys) (hp : d.groupKind ≠ .none → (d.Pressed keys' ↔ d.Pressed keys)) :
    run.Fits d keys' := by
  obtain ⟨htouched, hposition⟩ := h
  refine ⟨htouched.trans ?_, hposition⟩
  tauto

/-- The record of a group that no kind is given is untouched, whatever the keys. -/
theorem GroupRun.Fits.of_none {d' : GroupDef} (h : run.Fits d keys) (hd : d.groupKind = .none)
    (hd' : d'.groupKind = .none) : run.Fits d' keys' := by
  simpa [GroupRun.Fits, GroupDef.hasPosition, hd, hd'] using h

/-- A record that follows keys of which none is newly PRESSED (5, R96). -/
theorem GroupRun.Fits.follow (h : run.Fits d keys) (hf : FewerPressed keys keys') :
    (if run.touched = true ∧ ∀ c ∈ d.memberList, keys'[c].state ≠ .pressed then GroupRun.cleared else run).Fits d
      keys' := by
  split
  next hleft => exact GroupRun.cleared_fits (.inr fun ⟨c, hc, hp⟩ => hleft.2 c hc hp)
  next hstays =>
    have ⟨htouched, _⟩ := h
    refine h.of_pressed fun hk => ⟨GroupDef.Pressed.mono hf, fun hp => ?_⟩
    by_contra hnone
    exact hstays ⟨htouched.2 ⟨hk, hp⟩, fun c hc hpc => hnone ⟨c, hc, hpc⟩⟩

/-! ## The group stage (5, R84 to R94) -/

theorem positionFrom_isSome {old : Option Byte} (h : (weights keys d.memberList).sum ≠ 0 ∨ old.isSome = true) :
    (d.positionFrom keys old).isSome = true := by
  unfold GroupDef.positionFrom newPosition
  split
  next hz => exact h.resolve_left (not_not.2 hz)
  · rfl

/-- A member with a last delta above 0 gives the group a weight. -/
theorem weights_sum_pos {members : List Channel} {c : Channel} (hc : c ∈ members) (h : 0 < keys[c].lastDelta) :
    (weights keys members).sum ≠ 0 := by
  have hmem : keys[c].lastDelta.toNat ∈ weights keys members := List.mem_map_of_mem hc
  have hle := List.le_sum_of_mem hmem
  omega

/-- The record of a SLIDER or WHEEL group fits after its stage, where a newly touched group has a weight. -/
theorem positionStage_fits (g : GroupId) (hpos : d.hasPosition = true) (h : run.Fits d keys)
    (hweight : d.Pressed keys' → run.touched = false → (weights keys' d.memberList).sum ≠ 0) :
    (positionStage g d keys' run).1.Fits d keys' := by
  obtain ⟨hkind, -⟩ := GroupDef.kind_of_hasPosition hpos
  obtain ⟨-, hposition, hreported⟩ := h
  have fits {p q : Option Byte} (hp : d.Pressed keys') (hsp : p.isSome = true) (hsq : q.isSome = true) :
      (⟨true, p, q⟩ : GroupRun).Fits d keys' := by simp [GroupRun.Fits, hkind, hp, hpos, hsp, hsq]
  by_cases hp : d.Pressed keys'
  · cases ht : run.touched with
    | false =>
      have hsome := positionFrom_isSome (d := d) (old := run.position) (.inl (hweight hp ht))
      rw [positionStage_of_touch g hp ht]
      exact fits hp hsome hsome
    | true =>
      have hsome := positionFrom_isSome (d := d) (keys := keys') (.inr (hposition.2 ⟨hpos, ht⟩))
      by_cases hm : d.moveThreshold.toNat ≤ positionDistance d.groupKind
          (shownPosition (d.positionFrom keys' run.position)) (shownPosition run.reported)
      · rw [positionStage_of_move g hp ht hm]
        exact fits hp hsome hsome
      · rw [positionStage_of_rest g hp ht hm]
        exact fits hp hsome (hreported.2 ⟨hpos, ht⟩)
  · have hclear := GroupRun.cleared_fits (.inr hp)
    cases ht : run.touched with
    | false =>
      rw [positionStage_of_untouched g hp ht]
      simp [GroupRun.Fits, hposition, hreported, ht, hp]
    | true =>
      rw [positionStage_of_release g hp ht]
      exact hclear

/-- The record of any group fits after its stage, where a newly touched SLIDER or WHEEL has a weight. -/
theorem groupStage_fits {cfg : Configuration} {g : GroupId} (h : run.Fits cfg.groups[g] keys)
    (hweight : cfg.groups[g].hasPosition = true → cfg.groups[g].Pressed keys' → run.touched = false →
      (weights keys' cfg.groups[g].memberList).sum ≠ 0) :
    (groupStage cfg keys' g run).1.Fits cfg.groups[g] keys' := by
  by_cases hpos : cfg.groups[g].hasPosition = true
  · rw [groupStage_of_hasPosition hpos]
    exact positionStage_fits g hpos h (hweight hpos)
  cases hk : cfg.groups[g].groupKind with
  | none =>
    simp only [groupStage, hk]
    exact h.of_none hk hk
  | exclusive =>
    obtain ⟨-, hposition, hreported⟩ := h
    refine ⟨(groupStage_touched hk run).trans (by rw [hk]; simp [GroupDef.Pressed]), ?_, ?_⟩
    all_goals
      simp only [groupStage, hk]
      simp_all
  | slider => exact absurd (GroupDef.hasPosition_iff.2 (.inl hk)) hpos
  | wheel => exact absurd (GroupDef.hasPosition_iff.2 (.inr hk)) hpos

end

/-! ## A newly PRESSED key has a last delta of at least its touch threshold (3, R43 to R45) -/

/-- A PRESSED key has reached the touch threshold. -/
def KeyRecord.PressedByTouch (ch : ChannelConfig) (k : KeyRecord) : Prop :=
  k.state = .pressed → (ch.touch.toNat : Int) ≤ k.lastDelta

theorem KeyRecord.PressedByTouch.of_state {ch : ChannelConfig} {k : KeyRecord} (h : k.state ≠ .pressed) :
    k.PressedByTouch ch :=
  fun hp => absurd hp h

section

variable {ch : ChannelConfig} {k : KeyRecord} (c : Channel)

theorem moveKey_pressedByTouch_of_ne {st : KeyState} (h : st ≠ .pressed) : (moveKey c st k).1.PressedByTouch ch :=
  .of_state (by rwa [moveKey_state])

theorem moveKey_pressed_pressedByTouch (h : touchTest ch k.lastDelta = true) :
    (moveKey c .pressed k).1.PressedByTouch ch := by
  rw [moveKey_pressed]
  exact fun _ => (touchTest_iff ch _).1 h

theorem goDown_pressedByTouch (d : Int) : (goDown ch c d k).1.PressedByTouch ch :=
  moveKey_pressedByTouch_of_ne c (by split <;> decide)

theorem goUp_pressedByTouch (h : touchTest ch k.lastDelta = true) : (goUp ch c k).1.PressedByTouch ch := by
  unfold goUp
  split
  · exact moveKey_pressed_pressedByTouch c h
  · exact moveKey_pressedByTouch_of_ne c (by decide)

theorem calibrationSample_pressedByTouch (g : Globals) (mean : Nat) (h : k.state ≠ .pressed) :
    (calibrationSample g c mean k).1.PressedByTouch ch := by
  unfold calibrationSample endAttempt
  dsimp only
  (repeat' split)
  · exact moveKey_pressedByTouch_of_ne c (by decide)
  · exact .of_state h
  · exact moveKey_pressedByTouch_of_ne c (by decide)
  · exact .of_state h

theorem idleStep_pressedByTouch (g : Globals) (mean : Nat) (h : k.state ≠ .pressed) :
    (idleStep g ch c mean k.lastDelta k).1.PressedByTouch ch := by
  unfold idleStep quietStep driftStep
  (repeat' split)
  next ht => exact goUp_pressedByTouch c ht
  · exact moveKey_pressedByTouch_of_ne c (by decide)
  all_goals exact .of_state h

theorem proxStep_pressedByTouch (h : k.state ≠ .pressed) : (proxStep ch c k.lastDelta k).1.PressedByTouch ch := by
  unfold proxStep
  (repeat' split)
  next ht => exact goUp_pressedByTouch c ht
  · exact .of_state h
  · exact moveKey_pressedByTouch_of_ne c (by decide)

theorem detectStep_pressedByTouch (h : k.state ≠ .pressed) : (detectStep ch c k.lastDelta k).1.PressedByTouch ch := by
  unfold detectStep
  dsimp only
  (repeat' split)
  next ht _ => exact moveKey_pressed_pressedByTouch c ht
  · exact .of_state h
  · exact goDown_pressedByTouch c _

theorem suppressedStep_pressedByTouch (d : Int) (h : k.state ≠ .pressed) :
    (suppressedStep ch c d k).1.PressedByTouch ch := by
  unfold suppressedStep
  split
  · exact goDown_pressedByTouch c d
  · exact .of_state h

theorem validStep_pressedByTouch (g : Globals) (member : Bool) (mean : Nat) (h : k.state ≠ .pressed) :
    (validStep g ch member c mean k).1.PressedByTouch ch := by
  have hcounted : (k.counted mean).state ≠ .pressed := h
  cases hk : k.state with
  | off => simpa only [validStep, hk] using KeyRecord.PressedByTouch.of_state h
  | fault => simpa only [validStep, hk] using KeyRecord.PressedByTouch.of_state h
  | cal =>
    simp only [validStep, hk]
    exact calibrationSample_pressedByTouch c g mean (by simp)
  | idle => exact validStep_idle g ch member c mean hk ▸ idleStep_pressedByTouch c g mean hcounted
  | prox => exact validStep_prox g ch member c mean hk ▸ proxStep_pressedByTouch c hcounted
  | detect => exact validStep_detect g ch member c mean hk ▸ detectStep_pressedByTouch c hcounted
  | pressed => exact absurd hk h
  | suppressed => exact validStep_suppressed g ch member c mean hk ▸ suppressedStep_pressedByTouch c _ hcounted

theorem faultStep_pressedByTouch (g : Globals) (member : Bool) (kind : FaultKind) (h : k.state ≠ .pressed) :
    (faultStep g member c kind k).1.PressedByTouch ch := by
  rw [faultStep_eq]
  split
  · exact .of_state h
  · exact .of_state (by simp)

theorem channelStep_pressedByTouch (g : Globals) (member : Bool) (r : MeasResult) (h : k.state ≠ .pressed) :
    (channelStep g ch member r k).1.PressedByTouch ch := by
  unfold channelStep
  (repeat' split)
  · exact .of_state h
  · exact validStep_pressedByTouch r.channel g member r.mean h
  · exact .of_state h
  · exact faultStep_pressedByTouch r.channel g member .openCircuit h
  · exact faultStep_pressedByTouch r.channel g member .shorted h

/-- A key that a round makes PRESSED has reached its touch threshold. -/
theorem keyStage_pressedByTouch (cfg : Configuration) (r : MeasResult) (h : k.state ≠ .pressed) :
    (keyStage cfg r k).1.PressedByTouch cfg.channels[r.channel] := by
  unfold keyStage
  dsimp only
  rw [if_neg fun hp => h hp.1]
  exact channelStep_pressedByTouch _ _ r h

end

/-- The touch thresholds of a valid configuration are above 0 (8, R137, V7). -/
theorem touch_pos {cfg : Configuration} (h : cfg.valid = true) (c : Channel) : 0 < cfg.channels[c].touch.toNat := by
  have h7 : checkV7 cfg = none := Configuration.check_of_valid h (122, checkV7) (by simp [validationChecks])
  simp only [checkV7, firstChannel, Option.map_eq_none_iff, List.find?_eq_none, allChannels, List.mem_finRange,
    true_imp_iff] at h7
  have := h7 c
  simp only [within, Bool.not_eq_true, Bool.not_eq_false', Bool.and_eq_true, decide_eq_true_iff] at this
  exact this.1

theorem steppedKeys_lastDelta_pos {cfg : Configuration} (hv : cfg.valid = true) {rs : List MeasResult}
    {keys : Vector KeyRecord 24} {c : Channel} (hk : keys[c].state ≠ .pressed)
    (hp : (steppedKeys cfg rs keys)[c].state = .pressed) : 0 < (steppedKeys cfg rs keys)[c].lastDelta := by
  have hkey : (steppedKeys cfg rs keys)[c] = (steppedKey cfg rs c keys[c]).1 := by simp [steppedKeys]
  rw [hkey] at hp ⊢
  unfold steppedKey at hp ⊢
  split at hp
  · exact absurd hp hk
  next r _ =>
    have htouch := keyStage_pressedByTouch cfg r hk hp
    have hpos := touch_pos hv r.channel
    omega

/-! ## Evaluations (3, R41) -/

/-- A SLIDER or WHEEL member of a valid configuration is arbitrated by no group (8, R137, V13). -/
theorem not_arbitrates_of_hasPosition {cfg : Configuration} (hv : cfg.valid = true) {g : GroupId} {c : Channel}
    (hg : cfg.groups[g].hasPosition = true) (hc : c ∈ cfg.groups[g].memberList) (g' : GroupId) :
    ¬ cfg.Arbitrates g' c := by
  rintro ⟨hk', hc'⟩
  obtain ⟨hnone, hexclusive⟩ := GroupDef.kind_of_hasPosition hg
  have hin : cfg.InGroup g c := ⟨fun hz => hnone ((kind_zero_iff hv g).1 hz), hc⟩
  have hin' : cfg.InGroup g' c := ⟨fun hz => (by rw [(kind_zero_iff hv g').1 hz] at hk'; cases hk'), hc'⟩
  obtain rfl := inGroup_unique hv hin hin'
  exact hexclusive hk'

/-- A SLIDER or WHEEL newly touched by an evaluation has a weight: its PRESSED member reached its touch threshold. -/
theorem State.evaluate_weights {s : State} (hv : s.live.valid = true) (rs : List MeasResult) {g : GroupId}
    (hfits : s.groups[g].Fits s.live.groups[g] s.keys) (hpos : s.live.groups[g].hasPosition = true)
    (hp : s.live.groups[g].Pressed (s.evaluate rs).keys) (ht : s.groups[g].touched = false) :
    (weights (s.evaluate rs).keys s.live.groups[g].memberList).sum ≠ 0 := by
  obtain ⟨c, hc, hpc⟩ := hp
  obtain ⟨hkind, -⟩ := GroupDef.kind_of_hasPosition hpos
  obtain ⟨htouched, -⟩ := hfits
  have hbefore : s.keys[c].state ≠ .pressed := fun hbefore => by
    rw [htouched.2 ⟨hkind, c, hc, hbefore⟩] at ht
    cases ht
  have hkey : (s.evaluate rs).keys[c] = (steppedKeys s.live rs s.keys)[c] := by
    rw [State.evaluate_keys]
    exact stageKeys_of_not_arbitrates (not_arbitrates_of_hasPosition hv hpos hc)
  refine weights_sum_pos hc ?_
  rw [hkey] at hpc ⊢
  exact steppedKeys_lastDelta_pos hv hbefore hpc

/-- An arbitration leaves at most one member PRESSED: at most one was PRESSED before (5, R87). -/
theorem State.evaluate_onePressed {s : State} (hv : s.live.valid = true) (rs : List MeasResult) {g : GroupId}
    (h : s.live.groups[g].OnePressed s.keys) : s.live.groups[g].OnePressed (s.evaluate rs).keys := by
  intro hk c hc e he hpc hpe
  have hkey {c : Channel} (hc : c ∈ s.live.groups[g].memberList) : (s.evaluate rs).keys[c] =
      (arbitrate s.live.groups[g].memberList s.keys (steppedKeys s.live rs s.keys))[c] := by
    rw [State.evaluate_keys]
    exact stageKeys_of_arbitrates hv ⟨hk, hc⟩
  rw [hkey hc] at hpc
  rw [hkey he] at hpe
  refine arbitrate_onePressed (fun a b ha hb => ?_) hc he hpc hpe
  obtain ⟨hma, hpa, -⟩ := mem_incumbents.1 ha
  obtain ⟨hmb, hpb, -⟩ := mem_incumbents.1 hb
  exact h hk a hma b hmb hpa hpb

theorem State.GroupsFit.evaluate {s : State} (h : s.GroupsFit) (hv : s.live.valid = true) (rs : List MeasResult) :
    (s.evaluate rs).GroupsFit := by
  rw [State.groupsFit_iff] at h ⊢
  intro g
  obtain ⟨hfits, hone⟩ := h g
  rw [State.live_of_store (s := s) (by simp), State.evaluate_groups]
  exact ⟨groupStage_fits hfits (State.evaluate_weights hv rs hfits), State.evaluate_onePressed hv rs hone⟩

end Sys2Proof.Machine
end

section
/-! SUPPORT. Every event keeps the group records fitting their keys, and at most one member of an EXCLUSIVE group
PRESSED (5, R81, R87, R96, R97; 8, R145). -/

namespace Sys2Proof.Machine

section

variable {s t : State}

theorem State.GroupsFit.of_eq (h : s.GroupsFit) (hl : t.live.groups = s.live.groups) (hk : t.keys = s.keys)
    (hg : t.groups = s.groups) : t.GroupsFit := by
  simpa only [State.groupsFit_iff, hl, hk, hg] using h

theorem State.GroupsFit.of_workings (h : s.GroupsFit) (ht : t.workings = s.workings) : t.GroupsFit := by
  obtain ⟨hl, -, -, -, -, -, -, hk, hg, -⟩ := State.workings_eq_iff.1 ht
  exact h.of_eq (congrArg _ hl) hk hg

/-- With no key PRESSED every cleared record fits. -/
theorem State.GroupsFit.of_cleared (hg : ∀ g : GroupId, s.groups[g] = GroupRun.cleared)
    (hk : ∀ c : Channel, s.keys[c].state ≠ .pressed) : s.GroupsFit := by
  rw [State.groupsFit_iff]
  intro g
  have hp : ¬ s.live.groups[g].Pressed s.keys := fun ⟨c, _, hc⟩ => hk c hc
  rw [hg]
  exact ⟨GroupRun.cleared_fits (.inr hp), GroupDef.onePressed_of_unpressed hp⟩

/-! ## Forced transitions (5, R96) -/

/-- Groups that follow keys of which none is newly PRESSED. -/
theorem State.GroupsFit.follow (h : s.GroupsFit) (hl : t.live.groups = s.live.groups) (hf : FewerPressed s.keys t.keys)
    (hg : GroupsFollow s t) : t.GroupsFit := by
  rw [State.groupsFit_iff] at h ⊢
  intro g
  obtain ⟨hfits, hone⟩ := h g
  have hleft : s.groupLeft t.keys g = true ↔
      s.groups[g].touched = true ∧ ∀ c ∈ s.live.groups[g].memberList, t.keys[c].state ≠ .pressed := by
    simp [State.groupLeft]
  have hrun := hg g
  simp only [hleft] at hrun
  rw [hl, hrun]
  exact ⟨hfits.follow hf, hone.mono hf⟩

/-- A forced transition that sends no key to PRESSED, and the groups that follow it. -/
theorem State.GroupsFit.force (h : s.GroupsFit) (cs : List Channel) {move : Channel → KeyRecord → KeyOutcome}
    (hm : ∀ c k, (move c k).1.state = .pressed → k.state = .pressed) (cause : ReleaseCause) :
    ((s.forceKeys cs move).followGroups cause).GroupsFit := by
  refine h.follow (congrArg _ (State.live_of_store (by simp))) (fun c hp => ?_) (s.forceKeys_groupsFollow cs move cause)
  have hkey : ((s.forceKeys cs move).followGroups cause).keys[c] =
      if cs.contains c then (move c s.keys[c]).1 else s.keys[c] := by simp
  rw [hkey] at hp
  split at hp
  · exact hm c _ hp
  · exact hp

theorem releaseKey_unpressed (cfg : Configuration) (cause : ReleaseCause) (c : Channel) (k : KeyRecord)
    (h : (releaseKey cfg cause c k).1.state = .pressed) : k.state = .pressed := by
  rw [releaseKey_eq] at h
  dsimp only at h
  split at h
  · cases h
  · exact h

theorem stopKey_unpressed (cfg : Configuration) (c : Channel) (k : KeyRecord)
    (h : (stopKey cfg c k).1.state = .pressed) : k.state = .pressed := by
  unfold stopKey at h
  split at h
  · exact h
  · exact releaseKey_unpressed cfg .stop c k h

theorem recalKey_unpressed (cfg : Configuration) (c : Channel) (k : KeyRecord)
    (h : (recalKey cfg c k).1.state = .pressed) : k.state = .pressed := by
  rw [recalKey, forced_to_cal] at h
  cases h

theorem State.GroupsFit.releaseForStop (h : s.GroupsFit) : s.releaseForStop.GroupsFit :=
  h.force _ (stopKey_unpressed _) _

theorem State.GroupsFit.releaseForDoze (h : s.GroupsFit) : s.releaseForDoze.GroupsFit :=
  h.force _ (releaseKey_unpressed _ _) _

theorem State.GroupsFit.sendToCal (h : s.GroupsFit) (targets : List Channel) : (s.sendToCal targets).GroupsFit :=
  h.force _ (recalKey_unpressed _) _

/-! ## Installs (8, R143, R145) -/

/-- Two definitions count as the same when both are of no kind, or equal (8, R143). -/
theorem unchanged_cases {old new : GroupDef} (h : ¬ definitionChanged old new = true) :
    (old.groupKind = .none ∧ new.groupKind = .none) ∨ new = old := by
  unfold definitionChanged at h
  split at h
  next hnone => exact .inl hnone
  · simp only [Bool.or_eq_true, bne_iff_ne, not_or, not_not] at h
    obtain ⟨⟨⟨hkind, hcount⟩, hmembers⟩, hthreshold⟩ := h
    cases old
    cases new
    simp_all

/-- A channel of a group whose definition changed is regrouped, or was in no group before (8, R143, case 4). -/
theorem groupingChanged_of_member {old new : Configuration} (hn : new.valid = true) {g : GroupId} {c : Channel}
    (hk : new.groups[g].groupKind ≠ .none) (hc : c ∈ new.groups[g].memberList)
    (hd : definitionChanged old.groups[g] new.groups[g] = true) : groupingChanged old new c = true := by
  have hgroup : new.groupOf c = some g :=
    (groupOf_eq_some hn c g).2 ⟨fun hz => hk ((kind_zero_iff hn g).1 hz), hc⟩
  unfold groupingChanged
  split
  · rwa [hgroup]
  · rfl

/-- A listed channel that is regrouped falls under one of the first cases of R143, which end a touch. -/
theorem installCase_of_regrouped {old new : Configuration} {c : Channel} (hl : old.listed c = true)
    (hg : groupingChanged old new c = true) :
    installCase old new c = .removed ∨ installCase old new c = .remeasured ∨ installCase old new c = .regrouped := by
  simp only [installCase, hl, hg, if_true]
  (repeat' split) <;> simp

theorem installCase_of_unlisted {old new : Configuration} {c : Channel} (hl : old.listed c = false) :
    installCase old new c = .added ∨ installCase old new c = .untouched := by
  cases hn : new.listed c <;> simp [installCase, hl, hn]

/-- An install leaves no regrouped key PRESSED, where OFF fits the list (8, R143). -/
theorem installKey_unpressed_of_regrouped {old new : Configuration} {c : Channel} {k : KeyRecord}
    (hg : groupingChanged old new c = true) (ho : k.state = .off ↔ old.listed c = false) :
    (installKey old new c k).1.state ≠ .pressed := by
  rw [installKey_key]
  cases hl : old.listed c with
  | false =>
    obtain hcase | hcase := installCase_of_unlisted (new := new) hl
    · simp [hcase, KeyRecord.atCal]
    · simp [hcase, ho.2 hl]
  | true =>
    obtain hcase | hcase | hcase := installCase_of_regrouped hl hg
    · simp [hcase, KeyRecord.atOff]
    · simp [hcase, KeyRecord.atCal]
    · simp only [hcase]
      split
      · simp [KeyRecord.atIdle]
      next h => exact fun hp => h (.inl hp)

theorem InstallMove.unpressed {old new : Configuration} {c : Channel} {k k' : KeyRecord}
    (h : InstallMove old new c k k') (hp : k'.state = .pressed) : k.state = .pressed := by
  cases h with
  | removed => cases hp
  | calibrates => cases hp
  | stays _ _ hk =>
    obtain rfl | rfl | ⟨-, rfl⟩ := hk
    · exact hp
    · exact hp
    · cases hp

/-- An install leaves the groups fitting: a changed one has no PRESSED member, an unchanged one follows its keys. -/
theorem State.GroupsFit.install (h : s.GroupsFit) (ho : s.OffUnlisted) {new : Configuration}
    (hn : new.valid = true) : (s.install new).GroupsFit := by
  rw [State.groupsFit_iff] at h ⊢
  intro g
  obtain ⟨hfits, hone⟩ := h g
  have hkeys := s.install_keys new
  have hf : FewerPressed s.keys (s.install new).keys := fun c hp => by
    rw [hkeys] at hp
    exact (installKey_move _ _ _ _).unpressed hp
  rw [State.install_groups, installGroup_eq, State.install_live]
  split
  next hd =>
    by_cases hk : new.groups[g].groupKind = .none
    · exact ⟨GroupRun.cleared_fits (.inl hk), GroupDef.onePressed_of_none hk⟩
    have hp : ¬ new.groups[g].Pressed (s.install new).keys := fun ⟨c, hc, hp⟩ => by
      rw [hkeys] at hp
      exact installKey_unpressed_of_regrouped (groupingChanged_of_member hn hk hc hd) (ho c) hp
    exact ⟨GroupRun.cleared_fits (.inr hp), GroupDef.onePressed_of_unpressed hp⟩
  next hd =>
    obtain ⟨hold, hnew⟩ | hsame := unchanged_cases hd
    · exact ⟨(hfits.of_none (keys' := s.keys) hold hnew).follow hf, GroupDef.onePressed_of_none hnew⟩
    · rw [hsame]
      exact ⟨hfits.follow hf, hone.mono hf⟩

/-! ## Rounds -/

theorem State.finishRound_groups (s : State) (kind : RoundKind) (rs : List MeasResult) :
    (s.finishRound kind rs).groups = (s.evaluate rs).groups := by
  cases kind with
  | active => simp [State.finishRound_active, State.evaluated]
  | doze => simp [State.finishRound_doze, State.evaluated]

theorem State.GroupsFit.finishRound (h : s.GroupsFit) (hv : s.live.valid = true) (kind : RoundKind)
    (rs : List MeasResult) : (s.finishRound kind rs).GroupsFit :=
  (h.evaluate hv rs).of_eq (by simp [State.live]) (s.finishRound_keys kind rs) (s.finishRound_groups kind rs)

theorem State.GroupsFit.installPending (h : s.GroupsFit) (hv : s.store.Valid) (ho : s.OffUnlisted) :
    s.installPending.GroupsFit := by
  unfold State.installPending
  split
  next new hnew => exact h.install ho (hv.2 new hnew)
  · exact h

theorem State.installPending_valid (hv : s.store.Valid) : s.installPending.live.valid = true := by
  unfold State.installPending
  split
  next new hnew =>
    rw [State.install_live]
    exact hv.2 new hnew
  · exact hv.1

theorem State.GroupsFit.launchRound (h : s.GroupsFit) (hv : s.live.valid = true) : s.launchRound.GroupsFit := by
  unfold State.launchRound
  dsimp only
  split
  · refine State.GroupsFit.finishRound ?_ ?_ _ _
    · exact h.of_eq rfl rfl rfl
    · exact hv
  · exact h.of_eq (by simp [State.live]) (by simp) (by simp)

theorem State.GroupsFit.startRound (h : s.GroupsFit) (hv : s.store.Valid) (ho : s.OffUnlisted) :
    s.startRound.GroupsFit :=
  (h.installPending hv ho).launchRound (State.installPending_valid hv)

theorem State.GroupsFit.completeRound (h : s.GroupsFit) (hv : s.store.Valid) (ho : s.OffUnlisted) (kind : RoundKind)
    (rs : List MeasResult) : (s.completeRound kind rs).GroupsFit := by
  have hf := h.finishRound hv.1 kind rs
  rw [State.completeRound_eq rfl]
  split
  · exact hf.startRound (by simpa using hv) (ho.of_moves (.finishRound (by simp) kind))
  · exact hf

theorem State.GroupsFit.receiveScan (h : s.GroupsFit) (hv : s.store.Valid) (ho : s.OffUnlisted) (x : MeasResult) :
    (s.receiveScan x).GroupsFit := by
  unfold State.receiveScan
  split
  · exact h
  dsimp only
  split
  · exact h.of_eq (by simp [State.live]) (by simp) (by simp)
  · exact h.completeRound hv ho _ _

/-! ## The trim search -/

/-- In quiet no group is touched, and a trim that ends sends no key to PRESSED (9, R156). -/
theorem State.GroupsFit.completeTrim (h : s.GroupsFit) (hq : s.Quiet) (run : TrimRun) :
    (s.completeTrim run).GroupsFit := by
  have unpressed {u : State} (hu : u.Quiet) (d : GroupDef) : ¬ d.Pressed u.keys := fun ⟨c, _, hp⟩ => by
    have hc := hu c
    rw [hp] at hc
    cases hc
  have hl : (s.completeTrim run).live.groups = s.live.groups := by rw [State.completeTrim_live]; rfl
  have hg : (s.completeTrim run).groups = s.groups := by simp [State.completeTrim]
  rw [State.groupsFit_iff] at h ⊢
  intro g
  obtain ⟨hfits, -⟩ := h g
  have hp := unpressed hq s.live.groups[g]
  have hp' := unpressed (hq.completeTrim run) s.live.groups[g]
  rw [hl, hg]
  exact ⟨hfits.of_pressed fun _ => iff_of_false hp' hp, GroupDef.onePressed_of_unpressed hp'⟩

theorem State.GroupsFit.receiveTrim (h : s.GroupsFit) (hq : s.Quiet) (x : MeasResult) :
    (s.receiveTrim x).GroupsFit := by
  unfold State.receiveTrim
  (repeat' split)
  · exact h
  · exact h.of_eq (by simp [State.live]) (by simp) (by simp)
  · exact h.completeTrim hq _

/-! ## Conversions and the round timer -/

theorem State.GroupsFit.endConversion (h : s.GroupsFit) (hc : s.Controlled) (hv : s.store.Valid) (ho : s.OffUnlisted)
    (hq : s.ModeQuiet) (cycles : Nat) : (s.endConversion cycles).GroupsFit := by
  cases hm : s.engine.current with
  | none => simpa [State.endConversion, hm] using h
  | some m =>
    rw [State.endConversion_eq hm]
    unfold State.endBurst
    (repeat' split)
    · exact h.of_eq rfl rfl rfl
    · exact h.of_eq rfl rfl rfl
    cases hr : m.requester with
    | scan => exact State.GroupsFit.receiveScan (s := s.abandonMeasurement) h hv ho _
    | trim =>
      obtain ⟨hmode, -⟩ := hc.trim_search hm hr
      exact State.GroupsFit.receiveTrim (s := s.abandonMeasurement) h (hq.quiet (.inr hmode)) _

theorem State.GroupsFit.expireRoundTimer (h : s.GroupsFit) (hv : s.store.Valid) (ho : s.OffUnlisted) :
    s.expireRoundTimer.GroupsFit := by
  unfold State.expireRoundTimer
  (repeat' split)
  · exact h
  · exact h.startRound hv ho
  · exact h.of_eq rfl rfl rfl

/-! ## Commands -/

theorem State.GroupsFit.leaveDoze (h : s.GroupsFit) (hv : s.store.Valid) (ho : s.OffUnlisted) :
    s.leaveDoze.GroupsFit := by
  unfold State.leaveDoze
  split
  · exact State.GroupsFit.startRound (s := s.stopTimer) h hv ho
  · exact h.of_eq rfl rfl rfl

theorem State.GroupsFit.recalKeys (h : s.GroupsFit) (hv : s.store.Valid) (ho : s.OffUnlisted) {targets : List Channel}
    (ht : ∀ c ∈ targets, s.live.listed c = true) : (s.recalKeys targets).GroupsFit := by
  have hcal := h.sendToCal targets
  unfold State.recalKeys
  split
  · exact hcal.of_eq (by simp [State.live]) (by simp) (by simp)
  · exact hcal.of_eq (by simp [State.live]) (by simp) (by simp)
  · exact hcal.of_eq (by simp [State.live]) (by simp) (by simp)
  · refine State.GroupsFit.leaveDoze (hcal.of_eq (by simp [State.live]) (by simp) (by simp)) (by simpa using hv)
      (ho.of_moves ?_)
    exact (KeyMoves.sendToCal ht).then_eq (State.live_of_store (by simp)) (by simp)

theorem State.GroupsFit.takeStart (h : s.GroupsFit) (hv : s.store.Valid) (ho : s.OffUnlisted) :
    s.takeStart.GroupsFit := by
  unfold State.takeStart
  (repeat' split)
  · exact h.of_workings (by simp)
  · exact h.of_workings (by simp)
  · exact State.GroupsFit.startRound (h.of_eq (by simp [State.live]) (by simp) (by simp)) (by simpa using hv)
      (ho.of_moves (.of_eq (State.live_of_store (by simp)) (by simp)))

theorem State.GroupsFit.takeStop (h : s.GroupsFit) : s.takeStop.GroupsFit := by
  unfold State.takeStop
  split
  · have hrelease : s.abandonRound.stopTimer.releaseForStop.GroupsFit :=
      State.GroupsFit.releaseForStop (h.of_eq rfl rfl rfl)
    exact hrelease.of_eq (by simp [State.live]) (by simp) (by simp)
  · exact h.of_workings (by simp)

theorem State.GroupsFit.takeCommit (h : s.GroupsFit) (ho : s.OffUnlisted) : s.takeCommit.GroupsFit := by
  unfold State.takeCommit
  (repeat' split)
  · exact h.of_workings (by simp)
  · exact h.of_workings (by simp)
  next hnone _ => exact h.install ho (by simp [Configuration.valid, hnone])
  · exact h.of_eq (by simp [State.live]) (by simp) (by simp)

theorem State.GroupsFit.takeDoze (h : s.GroupsFit) : s.takeDoze.GroupsFit := by
  unfold State.takeDoze
  split
  · exact h.of_workings (by simp)
  · have hrelease : s.abandonRound.setDozeTimer.releaseForDoze.GroupsFit :=
      State.GroupsFit.releaseForDoze (h.of_eq rfl rfl rfl)
    exact hrelease.of_eq (by simp [State.live]) (by simp) (by simp)

theorem State.GroupsFit.takeCommand (h : s.GroupsFit) (hv : s.store.Valid) (ho : s.OffUnlisted) (n : CommandName) :
    (s.takeCommand n).GroupsFit := by
  cases n with
  | start => exact h.takeStart hv ho
  | stop => exact h.takeStop
  | commit => exact h.takeCommit ho
  | recal =>
    simp only [State.takeCommand, State.takeRecal]
    split
    · exact h.of_workings (by simp)
    · exact h.of_workings (by simp)
    next ht => exact h.recalKeys hv ho (recalTargets_listed ht)
  | trim =>
    simp only [State.takeCommand, State.takeTrim]
    (repeat' split)
    · exact h.of_workings (by simp)
    · exact h.of_workings (by simp)
    · exact h.of_eq (by simp [State.live]) (by simp) (by simp)
  | doze => exact h.takeDoze
  | wake =>
    simp only [State.takeCommand, State.takeWake]
    split
    · exact h.of_workings (by simp)
    · exact State.GroupsFit.leaveDoze (h.of_eq (by simp [State.live]) (by simp) (by simp)) (by simpa using hv)
        (ho.of_moves (.of_eq (State.live_of_store (by simp)) (by simp)))
  | flush => exact h.of_workings s.takeFlush_workings
  | abort =>
    simp only [State.takeCommand, State.takeAbort]
    split
    · exact h.of_workings (by simp)
    · exact h.of_eq (by simp [State.live]) (by simp) (by simp)
    · exact h.of_eq (by simp [State.live]) (by simp) (by simp)
    · exact h.of_eq (by simp [State.live, State.cancelTrim]) (by simp) (by simp)
  | reset => exact h.of_workings s.takeReset_workings

/-! ## Events -/

/-- The warm reset clears the records and leaves every key in CAL or OFF (3, R62; 5, R100). -/
theorem State.warmReset_groupsFit (s : State) : s.warmReset.GroupsFit := by
  refine .of_cleared s.warmReset_groups fun c hp => ?_
  have hq := s.warmReset_quiet c
  rw [hp] at hq
  cases hq

theorem State.GroupsFit.workingsStep {i : Instr} (h : s.GroupsFit) (hc : s.Controlled) (hv : s.store.Valid)
    (ho : s.OffUnlisted) (hq : s.ModeQuiet) (hst : WorkingsStep i s t) : t.GroupsFit := by
  have off {u : State} (hu : u.workings = s.workings) : u.OffUnlisted := ho.of_moves (.of_workings hu)
  cases hst with
  | unchanged ht => exact h.of_workings ht
  | command u n hu _ _ ht => exact ((h.of_workings hu).takeCommand (hv.of_workings hu) (off hu) n).of_workings ht
  | conversion u cycles hu _ ht =>
    exact ((h.of_workings hu).endConversion (hc.congr hu) (hv.of_workings hu) (off hu) (hq.of_workings hu)
      cycles).of_workings ht
  | roundTimer u hu _ ht =>
    exact ((h.of_workings hu).expireRoundTimer (hv.of_workings hu) (off hu)).of_workings ht
  | warmReset u _ _ ht => exact u.warmReset_groupsFit.of_workings ht
  | powerOn _ ht => exact State.reset_groupsFit.of_workings ht

end

/-- Settles O58: evaluations, forced transitions, installs and resets are the ways an event changes the keys of a group,
and each keeps the records fitting. -/
theorem groupsFitKeys : Obligations.GroupsFitKeys := by
  intro s t hc hv hoff hquiet hfit hstep
  obtain rfl | ⟨i, hst⟩ := step_workings hstep
  · exact hfit
  · exact hfit.workingsStep hc hv hoff hquiet hst

end Sys2Proof.Machine
end

section
/-! SUPPORT. The event queue (6): what an offered record, a hold, a pop and a flush make of it, and why each leaves it
sound. -/

namespace Sys2Proof.Machine

/-! ## A record offered to the queue (6, R103 to R108) -/

namespace EventQueue

variable {q : EventQueue} {r : EventRecord}

theorem offer_of_disabled (h : classEnabled q.filter r.kind = false) : q.offer r = q := by
  simp [offer, h]

theorem offer_of_coalesced (h : classEnabled q.filter r.kind = true) {records : List EventRecord}
    (hc : q.coalesced r = some records) : q.offer r = { q with records := records } := by
  simp [offer, h, hc]

theorem offer_of_room (h : classEnabled q.filter r.kind = true) (hc : q.coalesced r = none)
    (hroom : q.records.length < 16) : q.offer r = q.append r := by
  simp [offer, h, hc, queueCapacity, hroom]

theorem offer_of_full (h : classEnabled q.filter r.kind = true) (hc : q.coalesced r = none)
    (hfull : 16 ≤ q.records.length) : q.offer r = { q with lost := min 255 (q.lost + 1) } := by
  simp [offer, h, hc, queueCapacity, Nat.not_lt.2 hfull]

/-- There is an unheld GROUP_MOVE of the group of the GROUP_MOVE offered (6, R107). -/
def Coalesces (q : EventQueue) (r : EventRecord) : Prop :=
  r.kind = .groupMove ∧ ∃ e ∈ q.unheld, e.kind = .groupMove ∧ e.index = r.index

theorem isMoveOf_iff (g : Byte) (e : EventRecord) : isMoveOf g e = true ↔ e.kind = .groupMove ∧ e.index = g := by
  simp [isMoveOf]

theorem coalesced_of_not_coalesces (h : ¬ q.Coalesces r) : q.coalesced r = none := by
  by_cases hk : r.kind = .groupMove
  · have hno : ∀ e ∈ q.unheld, isMoveOf r.index e = false := fun e he =>
      Bool.eq_false_iff.2 fun hm => h ⟨hk, e, he, (isMoveOf_iff _ _).1 hm⟩
    rw [coalesced_move q hk, (replaceMove_eq_none _ _ _).2 hno, Option.map_none]
  · exact if_neg hk

/-- A GROUP_MOVE that coalesces writes its position into the first unheld one of its group, in place (6, R107). -/
theorem coalesced_of_coalesces (h : q.Coalesces r) :
    ∃ before after e, q.unheld = before ++ e :: after ∧ e.kind = .groupMove ∧ e.index = r.index ∧
      (∀ x ∈ before, ¬ (x.kind = .groupMove ∧ x.index = r.index)) ∧
      q.coalesced r = some ((if q.hold = .held then q.records.take 1 else []) ++
        before ++ { e with valueA := r.valueA } :: after) := by
  obtain ⟨hk, x, hx, hmove⟩ := h
  rw [coalesced_move q hk]
  cases hr : replaceMove r.index r.valueA q.unheld with
  | none =>
    have hno := (replaceMove_eq_none _ _ _).1 hr x hx
    rw [(isMoveOf_iff _ _).2 hmove] at hno
    cases hno
  | some records =>
    obtain ⟨before, after, e, hsplit, he, hbefore, rfl⟩ := replaceMove_eq_some hr
    obtain ⟨hkind, hindex⟩ := (isMoveOf_iff _ _).1 he
    refine ⟨before, after, e, hsplit, hkind, hindex, fun y hy => ?_, ?_⟩
    · rw [← isMoveOf_iff, hbefore y hy]
      exact Bool.false_ne_true
    · rw [Option.map_some, List.append_assoc]

end EventQueue

/-- Settles O50: an offer is the first of R103, R107, R105 and R108 that applies. -/
theorem offeredRecords : Obligations.OfferedRecords := by
  intro q r enabled code coalesces
  have henabled : enabled ↔ classEnabled q.filter r.kind = true := by
    simp only [enabled]
    cases r.kind with
    | overflow => exact iff_of_true trivial rfl
    | _ => exact Iff.rfl
  have hcode : r.kind.code = code := by
    simp only [code]
    cases r.kind <;> rfl
  refine ⟨hcode, fun hoff => ?disabled, fun hon hco => ?coalesced, fun hon hco hroom => ?appended,
    fun hon hco hfull => ?dropped⟩
  case disabled => exact EventQueue.offer_of_disabled (Bool.eq_false_iff.2 (mt henabled.2 hoff))
  case coalesced =>
    obtain ⟨before, after, e, hsplit, hkind, hindex, hbefore, hrecords⟩ := EventQueue.coalesced_of_coalesces hco
    exact ⟨before, after, e, hsplit, hkind, hindex, hbefore,
      EventQueue.offer_of_coalesced (henabled.1 hon) hrecords⟩
  case appended =>
    exact EventQueue.offer_of_room (henabled.1 hon) (EventQueue.coalesced_of_not_coalesces hco) hroom
  case dropped =>
    exact EventQueue.offer_of_full (henabled.1 hon) (EventQueue.coalesced_of_not_coalesces hco) hfull

/-! ## What keeps the queue sound (6, R106 to R111, R117) -/

namespace EventQueue

variable {q : EventQueue} {r : EventRecord}

theorem coalesces_iff_mem_moves : q.Coalesces r ↔ r.kind = .groupMove ∧ r.index ∈ q.moves := by
  simp [Coalesces, moves, and_assoc]

theorem Sound.of_empty (hempty : q.records = []) (hlost : q.lost = 0) (hhold : q.hold ≠ .held)
    (hpulse : q.pulse = true → q.attnMode = .pulse) : q.Sound := by
  simpa [Sound, moves, unheld, hempty, hlost, hhold] using hpulse

/-- The records are the held head, if any, and the unheld ones. -/
theorem held_append_unheld (q : EventQueue) :
    (if q.hold = .held then q.records.take 1 else []) ++ q.unheld = q.records := by
  unfold unheld
  split
  · cases q.records <;> rfl
  · rfl

/-- Other records behind a held head are the unheld ones. -/
theorem unheld_behind_held (hheld : q.hold = .held → q.records ≠ []) (records : List EventRecord) :
    { q with records := (if q.hold = HoldState.held then q.records.take 1 else []) ++ records }.unheld = records := by
  by_cases hold : q.hold = .held
  · obtain ⟨head, rest, hhead⟩ := List.exists_cons_of_ne_nil (hheld hold)
    simp [unheld, hold, hhead]
  · simp [unheld, hold]

/-- A coalesced GROUP_MOVE changes neither the number of the records nor the groups of the moves (6, R107). -/
theorem Sound.of_coalesced (h : q.Sound) (hc : q.Coalesces r) {records : List EventRecord}
    (hr : q.coalesced r = some records) : { q with records := records }.Sound := by
  obtain ⟨hlen, hlost, hfull, hheld, hmoves, hpulse⟩ := h
  obtain ⟨before, after, e, hsplit, hkind, -, -, hrecords⟩ := coalesced_of_coalesces hc
  obtain rfl := Option.some.inj (hr.symm.trans hrecords)
  rw [List.append_assoc]
  have hunheld := unheld_behind_held hheld (before ++ { e with valueA := r.valueA } :: after)
  have hcount : ((if q.hold = .held then q.records.take 1 else []) ++
      (before ++ { e with valueA := r.valueA } :: after)).length = q.records.length := by
    conv_rhs => rw [← q.held_append_unheld, hsplit]
    simp
  refine ⟨hcount ▸ hlen, hlost, hcount ▸ hfull, fun _ => by simp, ?_, hpulse⟩
  rw [moves, hunheld]
  simpa [moves, hsplit, hkind] using hmoves

/-- A record at the tail is a second unheld move of no group, and a pulse it starts runs in PULSE mode (6, R105, R117). -/
theorem Sound.append (h : q.Sound) (hc : ¬ q.Coalesces r) (hroom : q.records.length < 16) : (q.append r).Sound := by
  obtain ⟨hlen, hlost, hfull, hheld, hmoves, hpulse⟩ := h
  have htail : (q.append r).unheld = q.unheld ++ [r] := by
    by_cases hold : q.hold = .held
    · obtain ⟨head, rest, hhead⟩ := List.exists_cons_of_ne_nil (hheld hold)
      simp [EventQueue.append, unheld, hold, hhead]
    · simp [EventQueue.append, unheld, hold]
  refine ⟨?length, hlost, ?full, fun _ => by simp [EventQueue.append], ?moves, ?pulse⟩
  case length =>
    simp only [EventQueue.append, List.length_append, List.length_singleton]
    omega
  case full =>
    intro hl
    have := hfull hl
    omega
  case moves =>
    rw [coalesces_iff_mem_moves] at hc
    have hsame : (q.append r).moves = q.moves ++ (if r.kind = .groupMove then [r.index] else []) := by
      by_cases hk : r.kind = .groupMove <;> simp [moves, htail, hk]
    rw [hsame]
    by_cases hk : r.kind = .groupMove
    · have hnew : r.index ∉ q.moves := fun hmem => hc ⟨hk, hmem⟩
      rw [if_pos hk, ← List.concat_eq_append]
      exact hmoves.concat hnew
    · rwa [if_neg hk, List.append_nil]
  case pulse =>
    intro hp
    simp only [EventQueue.append, Bool.or_eq_true, Bool.and_eq_true, beq_iff_eq] at hp
    exact hp.elim hpulse And.right

/-- A record is dropped only while the queue is full (6, R108, R109). -/
theorem Sound.dropped (h : q.Sound) (hfull : 16 ≤ q.records.length) :
    { q with lost := min 255 (q.lost + 1) }.Sound := by
  obtain ⟨hlen, -, -, hheld, hmoves, hpulse⟩ := h
  exact ⟨hlen, min_le_left _ _, fun _ => le_antisymm hlen hfull, hheld, hmoves, hpulse⟩

theorem Sound.offer (h : q.Sound) (r : EventRecord) : (q.offer r).Sound := by
  cases hon : classEnabled q.filter r.kind with
  | false => rwa [offer_of_disabled hon]
  | true =>
    by_cases hc : q.Coalesces r
    · obtain ⟨before, after, e, -, -, -, -, hrecords⟩ := coalesced_of_coalesces hc
      rw [offer_of_coalesced hon hrecords]
      exact h.of_coalesced hc hrecords
    · have hnone := coalesced_of_not_coalesces hc
      obtain hroom | hfull := Nat.lt_or_ge q.records.length 16
      · rw [offer_of_room hon hnone hroom]
        exact h.append hc hroom
      · rw [offer_of_full hon hnone hfull]
        exact h.dropped hfull

theorem Sound.offerAll (h : q.Sound) (rs : List EventRecord) : (q.offerAll rs).Sound := by
  induction rs generalizing q with
  | nil => exact h
  | cons r rs ih => exact ih (h.offer r)

theorem Sound.flushed (h : q.Sound) : q.flushed.Sound := by
  obtain ⟨-, -, -, -, -, hpulse⟩ := h
  refine .of_empty rfl rfl ?_ hpulse
  simp only [EventQueue.flushed]
  split <;> simp

/-- The queue after a read of 0x10 (6, R110): the head of a non-empty queue is held. -/
def afterKind (q : EventQueue) : EventQueue := { q with hold := if q.records = [] then .free else .held }

/-- Holding the head takes it out of the records that coalesce (6, R107, R110). -/
theorem Sound.afterKind (h : q.Sound) : q.afterKind.Sound := by
  obtain ⟨hlen, hlost, hfull, hheld, hmoves, hpulse⟩ := h
  by_cases hempty : q.records = []
  · have hnone : q.lost = 0 := by simpa [hempty] using hfull
    exact .of_empty hempty hnone (by simp [EventQueue.afterKind, hempty]) hpulse
  · have hsub : q.afterKind.unheld.Sublist q.unheld := by
      by_cases hold : q.hold = .held
      · simp [EventQueue.afterKind, unheld, hempty, hold]
      · simpa [EventQueue.afterKind, unheld, hempty, hold] using List.tail_sublist q.records
    exact ⟨hlen, hlost, hfull, fun _ => hempty, hmoves.sublist ((hsub.filter _).map _), hpulse⟩

/-- A pop of a held head, by what follows the head (6, R109, R111, R117). -/
theorem popHead_of_cons {head : EventRecord} {rest : List EventRecord} (h : q.records = head :: rest) :
    q.popHead = { q with
      records :=
        if rest.length = 15 ∧ 0 < q.lost then rest ++ [⟨.overflow, 0, BitVec.ofNat 8 q.lost, 0⟩] else rest
      hold := .free
      lost := if rest.length = 15 then 0 else q.lost
      pulse := q.pulse || (decide (rest ≠ []) && q.attnMode == .pulse) } := by
  simp only [popHead, h, List.tail_cons, overflowRecord]
  cases rest with
  | nil => simp
  | cons next rest =>
    obtain h0 | h0 := Nat.eq_zero_or_pos q.lost
    · simp [h0]
    · by_cases hl : rest.length = 14 <;> simp [h0, hl]

/-- A pop gives up the only place it frees to OVERFLOW, and keeps the unheld moves (6, R109, R111). -/
theorem Sound.popHead (h : q.Sound) (hold : q.hold = .held) : q.popHead.Sound := by
  obtain ⟨hlen, hlost, hfull, hheld, hmoves, hpulse⟩ := h
  obtain ⟨head, rest, hrecords⟩ := List.exists_cons_of_ne_nil (hheld hold)
  have hrest : rest.length + 1 = q.records.length := by rw [hrecords, List.length_cons]
  have hpulse' : (q.pulse || (decide (rest ≠ []) && q.attnMode == .pulse)) = true → q.attnMode = .pulse := by
    intro hp
    simp only [Bool.or_eq_true, Bool.and_eq_true, beq_iff_eq] at hp
    exact hp.elim hpulse And.right
  simp only [moves, unheld, hold, hrecords, if_true, List.tail_cons] at hmoves
  rw [popHead_of_cons hrecords]
  by_cases hl : rest.length = 15
  · obtain h0 | h0 := Nat.eq_zero_or_pos q.lost
    · refine ⟨?_, ?_, ?_, ?_, ?_, hpulse'⟩ <;> simp [moves, unheld, hl, h0, hmoves]
    · refine ⟨?_, ?_, ?_, ?_, ?_, hpulse'⟩ <;> simp [moves, unheld, hl, h0, hmoves]
  · have h0 : q.lost = 0 := by
      by_contra hne
      have := hfull hne
      omega
    refine ⟨?_, ?_, ?_, ?_, ?_, hpulse'⟩ <;> simp [moves, unheld, hl, h0, hmoves]
    omega

theorem Sound.afterValueB (h : q.Sound) : q.afterValueB.Sound := by
  cases hold : q.hold with
  | held => simpa [EventQueue.afterValueB, hold] using h.popHead hold
  | free => simpa [EventQueue.afterValueB, hold] using h
  | void =>
    obtain ⟨hlen, hlost, hfull, -, hmoves, hpulse⟩ := h
    simp only [EventQueue.afterValueB, hold]
    exact ⟨hlen, hlost, hfull, nofun, by simpa [moves, unheld, hold] using hmoves, hpulse⟩

/-- The filter, the ATTN mode and the pulse bear on no other part of soundness (6, R104, R115, R117). -/
theorem Sound.withOutputs (h : q.Sound) (filter : BitVec 7) {mode : AttnMode} {pulse : Bool}
    (hp : pulse = true → mode = .pulse) : { q with filter := filter, attnMode := mode, pulse := pulse }.Sound := by
  obtain ⟨hlen, hlost, hfull, hheld, hmoves, -⟩ := h
  exact ⟨hlen, hlost, hfull, hheld, hmoves, hp⟩

end EventQueue

end Sys2Proof.Machine
end

section
/-! SUPPORT. How an event changes the queue: the operations inside the part only offer records; FLUSH, the port's reads,
the writes of the filter and the ATTN mode, the end of a pulse and the resets do the rest. -/

namespace Sys2Proof.Machine

/-! ## Operations that only offer records (6, R105) -/

/-- `t` has the queue of `s` after records have been offered to it, one after another. -/
def State.OffersOnly (s t : State) : Prop := ∃ rs, t.queue = s.queue.offerAll rs

namespace State.OffersOnly

variable {s t u : State}

theorem of_eq (h : t.queue = s.queue) : s.OffersOnly t := ⟨[], h⟩

theorem trans (h : s.OffersOnly t) (h' : t.OffersOnly u) : s.OffersOnly u := by
  obtain ⟨a, ha⟩ := h
  obtain ⟨b, hb⟩ := h'
  exact ⟨a ++ b, by rw [hb, ha, EventQueue.offerAll_append]⟩

/-- Only the queue of the result counts. -/
theorem congr (h : s.OffersOnly t) (hu : u.queue = t.queue) : s.OffersOnly u := h.trans (.of_eq hu)

theorem changeMode (h : s.OffersOnly t) (mode : Mode) (cause : ModeCause) (b : Byte) :
    s.OffersOnly (t.changeMode mode cause b) := h.trans ⟨[_], rfl⟩

theorem endCommand (h : s.OffersOnly t) (code : Byte) (result : ResultCode) (detail : Byte) :
    s.OffersOnly (t.endCommand code result detail) := h.trans ⟨[_], t.endCommand_queue code result detail⟩

theorem forceKeys (h : s.OffersOnly t) (cs : List Channel) (move : Channel → KeyRecord → KeyOutcome) :
    s.OffersOnly (t.forceKeys cs move) := h.trans ⟨_, t.forceKeys_queue cs move⟩

theorem followGroups (h : s.OffersOnly t) (cause : ReleaseCause) : s.OffersOnly (t.followGroups cause) :=
  h.trans ⟨_, t.followGroups_queue cause⟩

theorem withStore (h : s.OffersOnly t) (x : ConfigStore) : s.OffersOnly (t.withStore x) := h.congr rfl

theorem withKeys (h : s.OffersOnly t) (x : Vector KeyRecord 24) : s.OffersOnly (t.withKeys x) := h.congr rfl

theorem withTrimRun (h : s.OffersOnly t) (x : Option TrimRun) : s.OffersOnly (t.withTrimRun x) := h.congr rfl

theorem clearInactivity (h : s.OffersOnly t) : s.OffersOnly t.clearInactivity := h.congr rfl

theorem setDozeTimer (h : s.OffersOnly t) : s.OffersOnly t.setDozeTimer := h.congr rfl

theorem enterBusy (h : s.OffersOnly t) (name : CommandName) (work : Work) : s.OffersOnly (t.enterBusy name work) :=
  h.congr rfl

theorem leaveBusy (h : s.OffersOnly t) : s.OffersOnly t.leaveBusy := h.congr rfl

theorem abandonMeasurement (h : s.OffersOnly t) : s.OffersOnly t.abandonMeasurement := h.congr rfl

theorem abandonRound (h : s.OffersOnly t) : s.OffersOnly t.abandonRound := h.congr rfl

theorem stopTimer (h : s.OffersOnly t) : s.OffersOnly t.stopTimer := h.congr rfl

theorem evaluate (h : s.OffersOnly t) (results : List MeasResult) : s.OffersOnly (t.evaluate results) :=
  h.trans ⟨_, rfl⟩

end State.OffersOnly

variable (s : State)

theorem State.offersOnly_refl : s.OffersOnly s := .of_eq rfl

/-! ## Installs and rounds -/

theorem State.wakeByInstall_offersOnly : s.OffersOnly s.wakeByInstall := by
  unfold State.wakeByInstall
  split
  · exact (s.offersOnly_refl.changeMode _ _ _).clearInactivity
  · exact s.offersOnly_refl

theorem State.installCopy_offersOnly (new : Configuration) : s.OffersOnly (s.installCopy new) := ⟨_, rfl⟩

theorem State.install_offersOnly (new : Configuration) : s.OffersOnly (s.install new) :=
  ((s.installCopy_offersOnly new).trans (s.installCopy new).wakeByInstall_offersOnly).leaveBusy.endCommand _ _ _

theorem State.advanceRecal_offersOnly : s.OffersOnly s.advanceRecal := by
  unfold State.advanceRecal
  split
  · dsimp only
    split
    · exact s.offersOnly_refl.leaveBusy.endCommand _ _ _
    · exact .of_eq rfl
  · exact s.offersOnly_refl
  · exact s.offersOnly_refl
  · exact s.offersOnly_refl

theorem State.inactivityCheck_offersOnly : s.OffersOnly s.inactivityCheck := by
  have hcount : s.OffersOnly s.countInactivity := .of_eq rfl
  unfold State.inactivityCheck
  dsimp only
  split
  · exact (hcount.changeMode _ _ _).setDozeTimer
  · exact hcount

theorem State.wakeKeyCheck_offersOnly : s.OffersOnly s.wakeKeyCheck := by
  unfold State.wakeKeyCheck
  split
  · split
    · exact (s.offersOnly_refl.changeMode _ _ _).clearInactivity
    · exact s.offersOnly_refl
  · exact s.offersOnly_refl

theorem State.finishRound_offersOnly (kind : RoundKind) (results : List MeasResult) :
    s.OffersOnly (s.finishRound kind results) := by
  have hcount : s.OffersOnly s.countRound := .of_eq rfl
  have hevaluate : s.OffersOnly (s.countRound.evaluate results).advanceRecal :=
    (hcount.evaluate results).trans (State.advanceRecal_offersOnly _)
  cases kind with
  | active => exact hevaluate.trans (State.inactivityCheck_offersOnly _)
  | doze => exact hevaluate.trans (State.wakeKeyCheck_offersOnly _)

theorem State.installPending_offersOnly : s.OffersOnly s.installPending := by
  unfold State.installPending
  split
  · exact s.install_offersOnly _
  · exact s.offersOnly_refl

theorem State.launchRound_offersOnly : s.OffersOnly s.launchRound := by
  have hround (x : ScanController) : s.OffersOnly (s.withScan x) := .of_eq rfl
  unfold State.launchRound
  dsimp only
  split
  · exact (hround _).trans (State.finishRound_offersOnly _ _ _)
  · exact .of_eq rfl

theorem State.startRound_offersOnly : s.OffersOnly s.startRound :=
  s.installPending_offersOnly.trans s.installPending.launchRound_offersOnly

theorem State.completeRound_offersOnly (kind : RoundKind) (results : List MeasResult) :
    s.OffersOnly (s.completeRound kind results) := by
  unfold State.completeRound
  dsimp only
  split
  · exact (s.finishRound_offersOnly kind results).trans (State.startRound_offersOnly _)
  · exact s.finishRound_offersOnly kind results

theorem State.receiveScan_offersOnly (r : MeasResult) : s.OffersOnly (s.receiveScan r) := by
  unfold State.receiveScan
  split
  · exact s.offersOnly_refl
  · dsimp only
    split
    · exact .of_eq rfl
    · exact s.completeRound_offersOnly _ _

theorem State.expireRoundTimer_offersOnly : s.OffersOnly s.expireRoundTimer := by
  unfold State.expireRoundTimer
  split
  · exact s.offersOnly_refl
  · split
    · exact s.startRound_offersOnly
    · exact .of_eq rfl

/-! ## The trim search and conversions -/

theorem State.requestTrim_offersOnly (t : TrimRun) : s.OffersOnly (s.requestTrim t) := .of_eq (by simp)

theorem State.completeTrim_offersOnly (t : TrimRun) : s.OffersOnly (s.completeTrim t) := by
  unfold State.completeTrim
  exact ((((((s.offersOnly_refl.withStore _).withKeys _).forceKeys _ _).withTrimRun none).changeMode
    _ _ _).leaveBusy).endCommand _ _ _

theorem State.receiveTrim_offersOnly (r : MeasResult) : s.OffersOnly (s.receiveTrim r) := by
  unfold State.receiveTrim
  split
  · exact s.offersOnly_refl
  · split
    · exact s.requestTrim_offersOnly _
    · exact s.completeTrim_offersOnly _

theorem State.endBurst_offersOnly (m : Measurement) (counts : List Nat) : s.OffersOnly (s.endBurst m counts) := by
  unfold State.endBurst
  split
  · exact .of_eq (by simp)
  · cases m.requester with
    | scan => exact s.offersOnly_refl.abandonMeasurement.trans (State.receiveScan_offersOnly _ _)
    | trim => exact s.offersOnly_refl.abandonMeasurement.trans (State.receiveTrim_offersOnly _ _)

theorem State.endConversion_offersOnly (cycles : Nat) : s.OffersOnly (s.endConversion cycles) := by
  unfold State.endConversion
  split
  · exact s.offersOnly_refl
  · dsimp only
    split
    · exact .of_eq rfl
    · exact s.endBurst_offersOnly _ _

/-! ## Commands -/

theorem State.leaveDoze_offersOnly : s.OffersOnly s.leaveDoze := by
  unfold State.leaveDoze
  split
  · exact s.offersOnly_refl.stopTimer.trans (State.startRound_offersOnly _)
  · exact s.offersOnly_refl.stopTimer

theorem State.sendToCal_offersOnly (targets : List Channel) : s.OffersOnly (s.sendToCal targets) :=
  (s.offersOnly_refl.forceKeys _ _).followGroups _

theorem State.recalKeys_offersOnly (targets : List Channel) : s.OffersOnly (s.recalKeys targets) := by
  have hsend := s.sendToCal_offersOnly targets
  unfold State.recalKeys
  split
  · exact hsend.endCommand _ _ _
  · exact hsend.endCommand _ _ _
  · exact hsend.enterBusy _ _
  · exact ((hsend.changeMode _ _ _).clearInactivity.enterBusy _ _).trans (State.leaveDoze_offersOnly _)

/-- Every command but FLUSH only offers records. -/
theorem State.takeCommand_offersOnly {n : CommandName} (hn : n ≠ .flush) : s.OffersOnly (s.takeCommand n) := by
  have hrefuse (n : CommandName) (r : ResultCode) : s.OffersOnly (s.refuse n r) := s.offersOnly_refl.endCommand _ _ _
  cases n with
  | start =>
    simp only [State.takeCommand, State.takeStart]
    (repeat' split)
    · exact hrefuse _ _
    · exact hrefuse _ _
    · exact ((s.offersOnly_refl.changeMode _ _ _).clearInactivity.endCommand _ _ _).trans (State.startRound_offersOnly _)
  | stop =>
    simp only [State.takeCommand, State.takeStop, State.releaseForStop]
    split
    · exact (((s.offersOnly_refl.abandonRound.stopTimer.forceKeys _ _).followGroups _).changeMode _ _ _).endCommand _ _ _
    · exact hrefuse _ _
  | commit =>
    simp only [State.takeCommand, State.takeCommit]
    (repeat' split)
    · exact hrefuse _ _
    · exact s.offersOnly_refl.endCommand _ _ _
    · exact s.install_offersOnly _
    · exact .of_eq rfl
  | recal =>
    simp only [State.takeCommand, State.takeRecal]
    split
    · exact hrefuse _ _
    · exact s.offersOnly_refl.endCommand _ _ _
    · exact s.recalKeys_offersOnly _
  | trim =>
    simp only [State.takeCommand, State.takeTrim]
    (repeat' split)
    · exact hrefuse _ _
    · exact hrefuse _ _
    · exact ((s.offersOnly_refl.enterBusy _ _).changeMode _ _ _).trans (State.requestTrim_offersOnly _ _)
  | doze =>
    simp only [State.takeCommand, State.takeDoze, State.releaseForDoze]
    split
    · exact hrefuse _ _
    · exact (((s.offersOnly_refl.abandonRound.setDozeTimer.forceKeys _ _).followGroups _).changeMode _ _ _).endCommand _ _ _
  | wake =>
    simp only [State.takeCommand, State.takeWake]
    split
    · exact hrefuse _ _
    · exact ((s.offersOnly_refl.changeMode _ _ _).clearInactivity.endCommand _ _ _).trans (State.leaveDoze_offersOnly _)
  | flush => exact absurd rfl hn
  | abort =>
    simp only [State.takeCommand, State.takeAbort]
    split
    · exact hrefuse _ _
    · exact (s.offersOnly_refl.withStore _).leaveBusy.endCommand _ _ _
    · exact s.offersOnly_refl.leaveBusy.endCommand _ _ _
    · exact ((s.offersOnly_refl.abandonMeasurement.withTrimRun none).changeMode _ _ _).leaveBusy.endCommand _ _ _
  | reset =>
    simp only [State.takeCommand, State.takeReset]
    split
    · exact .of_eq rfl
    · exact s.offersOnly_refl.endCommand _ _ _

/-! ## The inversion -/

/-- How one event changes the queue `q`. -/
inductive QueueStep (q : EventQueue) : EventQueue → Prop
  | offered (rs : List EventRecord) : QueueStep q (q.offerAll rs)
  | flushed (report : EventRecord) : QueueStep q (q.flushed.offer report)
  | kindRead : QueueStep q q.afterKind
  | valueBRead : QueueStep q q.afterValueB
  | filterWritten (filter : BitVec 7) : QueueStep q { q with filter := filter }
  | attnModeWritten (mode : AttnMode) : QueueStep q { q with attnMode := mode, pulse := false }
  | pulseEnded : QueueStep q { q with pulse := false }
  | warmReset : QueueStep q (warmQueue q)
  | powerOn : QueueStep q EventQueue.powerOn

theorem QueueStep.unchanged (q : EventQueue) : QueueStep q q := .offered []

theorem State.OffersOnly.queueStep {s t : State} (h : s.OffersOnly t) : QueueStep s.queue t.queue := by
  obtain ⟨rs, h⟩ := h
  rw [h]
  exact .offered rs

theorem State.takeCommand_queueStep (n : CommandName) : QueueStep s.queue (s.takeCommand n).queue := by
  by_cases hn : n = .flush
  · subst hn
    simp only [State.takeCommand, State.takeFlush, State.endCommand_queue, State.withQueue_queue]
    exact .flushed _
  · exact (s.takeCommand_offersOnly hn).queueStep

theorem State.commandRequest_queueStep (code : Byte) : QueueStep s.queue (s.commandRequest code).queue := by
  unfold State.commandRequest
  split
  · exact .unchanged _
  split
  · split
    · exact .unchanged _
    · exact (s.offersOnly_refl.endCommand _ _ _).queueStep
  · split
    · exact .unchanged _
    · exact s.takeCommand_queueStep _

theorem State.writeAttnMode_queueStep (v : Byte) : QueueStep s.queue (s.writeAttnMode v).queue := by
  unfold State.writeAttnMode
  split
  · exact .unchanged _
  · split
    · exact .unchanged _
    · exact .attnModeWritten _

theorem State.writeCommon_queueStep (a : Nat) (v : Byte) : QueueStep s.queue (s.writeCommon a v).queue := by
  unfold State.writeCommon
  (repeat' split)
  · exact .unchanged _
  · exact .unchanged _
  · exact .unchanged _
  · exact s.commandRequest_queueStep v
  · exact .filterWritten _
  · exact s.writeAttnMode_queueStep v
  · exact .unchanged _
  · exact .unchanged _

theorem State.hostWrite_queueStep (a v : Byte) : QueueStep s.queue (s.hostWrite a v).queue := by
  show QueueStep s.queue (s.writeAt a v).queue
  unfold State.writeAt
  split
  · exact s.writeCommon_queueStep _ v
  · simp only [State.writePaged_frame]
    exact .unchanged _

theorem State.readKind_queue : s.readKind.queue = s.queue.afterKind := by
  unfold State.readKind EventQueue.afterKind
  split
  next h => simp [h]
  next h => simp [h]

theorem State.hostRead_queueStep (a : Byte) : QueueStep s.queue (s.hostRead a).queue := by
  show QueueStep s.queue (s.readAt a).queue
  unfold State.readAt
  (repeat' split)
  · rw [s.readKind_queue]
    exact .kindRead
  · exact .unchanged _
  · exact .unchanged _
  · exact .valueBRead
  · simp only [State.readField_frame]
    exact .unchanged _
  · exact .unchanged _

section

variable {s} {f : State → State} (hf : ∀ u : State, u.queue = s.queue → QueueStep s.queue (f u).queue)

include hf

theorem State.beginTransaction_queueStep (d : Direction) (next : Byte) :
    QueueStep s.queue (s.beginTransaction d next f).queue := by
  unfold State.beginTransaction
  split
  · exact .unchanged _
  · exact hf s rfl
  · dsimp only
    split
    · exact hf _ rfl
    · exact .unchanged _

theorem State.furtherByte_queueStep (d : Direction) : QueueStep s.queue (s.furtherByte d f).queue := by
  unfold State.furtherByte
  (repeat' split)
  · exact hf s rfl
  · exact .unchanged _
  · exact .unchanged _
  · exact .unchanged _
  · exact .unchanged _

theorem State.onBus_queueStep (d : Direction) (a : Byte) : QueueStep s.queue (s.onBus d a f).queue := by
  unfold State.onBus
  split
  · exact State.furtherByte_queueStep hf d
  · exact State.beginTransaction_queueStep hf d _

end

theorem State.inside_queueStep {f : State → State} (h : QueueStep s.queue (f s).queue) :
    QueueStep s.queue (s.inside f).queue := by
  unfold State.inside
  split
  · exact .unchanged _
  · simpa using h

theorem State.endTransaction_queueStep {kind : ResetKind} {reset : State → State}
    (h : QueueStep s.queue (reset s).queue) : QueueStep s.queue (s.endTransaction kind reset).queue := by
  unfold State.endTransaction
  split
  · exact h
  · exact .unchanged _

variable {s}

/-- Every event changes the queue in one of the ways of `QueueStep`. -/
theorem exec_queueStep {i : Instr} {t : State} (h : exec i s = .next t) : QueueStep s.queue t.queue := by
  have hwrite (a v : Byte) (u : State) (hu : u.queue = s.queue) : QueueStep s.queue (u.hostWrite a v).queue :=
    hu ▸ u.hostWrite_queueStep a v
  have hread (a : Byte) (u : State) (hu : u.queue = s.queue) : QueueStep s.queue (u.hostRead a).queue :=
    hu ▸ u.hostRead_queueStep a
  cases hw : writtenAt i with
  | some av =>
    obtain ⟨a, v⟩ := av
    rw [exec_of_writtenAt hw, Host.Outcome.next.injEq] at h
    rw [← h]
    exact State.onBus_queueStep (hwrite a v) .write a
  | none =>
    cases i with
    | registerWrite value =>
      obtain rfl := Host.Outcome.next.inj h
      exact State.furtherByte_queueStep (fun u => hwrite u.port.pointer value u) .write
    | registerPointer value =>
      obtain rfl := Host.Outcome.next.inj h
      exact State.beginTransaction_queueStep (fun u hu => hu ▸ .unchanged u.queue) .write value
    | hold =>
      obtain rfl := Host.Outcome.next.inj h
      exact State.onBus_queueStep (hread 0x10) .read 0x10
    | pop =>
      obtain rfl := Host.Outcome.next.inj h
      exact State.onBus_queueStep (hread 0x13) .read 0x13
    | latchedFieldRead =>
      obtain rfl := Host.Outcome.next.inj h
      exact State.onBus_queueStep (fun u => hread u.port.pointer u) .read s.port.pointer
    | roundTimerExpiry =>
      obtain rfl := Host.Outcome.next.inj h
      exact s.inside_queueStep s.expireRoundTimer_offersOnly.queueStep
    | conversion cycles =>
      obtain rfl := Host.Outcome.next.inj h
      exact s.inside_queueStep (s.endConversion_offersOnly cycles).queueStep
    | fadeTimerExpiry line =>
      obtain rfl := Host.Outcome.next.inj h
      exact s.inside_queueStep (State.OffersOnly.of_eq (by simp)).queueStep
    | pulseTimerExpiry =>
      obtain rfl := Host.Outcome.next.inj h
      exact s.inside_queueStep .pulseEnded
    | pwmFrame =>
      obtain rfl := Host.Outcome.next.inj h
      exact s.inside_queueStep (.unchanged _)
    | startUpTimeEnd =>
      obtain rfl := Host.Outcome.next.inj h
      unfold State.endStartUp
      split <;> exact .unchanged _
    | resetnAssert =>
      obtain rfl := Host.Outcome.next.inj h
      exact .powerOn
    | resetnRelease addrHigh =>
      obtain rfl := Host.Outcome.next.inj h
      exact .powerOn
    | coldReset =>
      obtain rfl := Host.Outcome.next.inj h
      exact s.endTransaction_queueStep .powerOn
    | warmReset =>
      obtain rfl := Host.Outcome.next.inj h
      exact s.endTransaction_queueStep .warmReset
    | _ => cases hw

theorem QueueStep.sound {q q' : EventQueue} (h : q.Sound) (hst : QueueStep q q') : q'.Sound := by
  obtain ⟨-, -, -, -, -, hpulse⟩ := id h
  cases hst with
  | offered rs => exact h.offerAll rs
  | flushed report => exact h.flushed.offer report
  | kindRead => exact h.afterKind
  | valueBRead => exact h.afterValueB
  | filterWritten filter => exact h.withOutputs filter hpulse
  | attnModeWritten mode => exact h.withOutputs q.filter nofun
  | pulseEnded => exact h.withOutputs q.filter nofun
  | warmReset => exact .of_empty rfl rfl nofun nofun
  | powerOn => exact .of_empty rfl rfl nofun nofun

/-- Settles O52: an offer, a flush, a hold, a pop, the filter, the ATTN mode, the end of a pulse and the resets are the
ways an event changes the queue, and each keeps it sound. -/
theorem queueStaysSound : Obligations.QueueStaysSound := by
  intro s t hsound hstep
  unfold step at hstep
  split at hstep
  · obtain rfl := Host.Outcome.next.inj hstep
    exact hsound
  next i rest _ => exact QueueStep.sound (q := (s.withPending rest).queue) hsound (exec_queueStep hstep)

end Sys2Proof.Machine
end

section
/-! SUPPORT. Bytes written that move no indicator line (6, R104, R114, R115; 12, R179 to R182), and the rows that stand
for a byte at one address (log 2, log 13). -/

namespace Sys2Proof.Machine

/-! ## Bytes written to the common region -/

/-- A row that stands for a byte at one address, where the byte moves nothing the lines follow: the byte's effect, and
the port after it. -/
theorem exec_quietWrite {s u : State} {i : Instr} {a v : Byte} (h : s.AnswersAt a) (hi : writtenAt i = some (a, v))
    (hu : s.writeAt a v = u) (hl : u.lines = s.lines) (hk : u.keys = s.keys) (hg : u.groups = s.groups)
    (hm : u.scan.mode = s.scan.mode) : exec i s = .next (u.pointAfter a .write) := by
  rw [exec_of_writtenAt hi, State.onBus_of_answersAt h, State.hostWrite, hu,
    State.driveFrom_quiet (by simpa) (by simpa) (by simpa) (by simp [hm])]

theorem State.writeAttnMode_of_ge (s : State) {v : Byte} (h : 3 ≤ v.toNat) : s.writeAttnMode v = s.ignoreWrite := by
  have hnone : attnModeOf v = none := by
    cases hm : attnModeOf v with
    | none => rfl
    | some m =>
      have hcode : (m.code == v) = true := List.find?_some (p := fun m : AttnMode => m.code == v) hm
      rw [← eq_of_beq hcode] at h
      cases m <;> exact absurd h (by decide)
  rw [State.writeAttnMode, hnone]

theorem State.writeAttnMode_of_code (s : State) (m : AttnMode) :
    s.writeAttnMode m.code =
      if m = s.queue.attnMode then s else s.withQueue { s.queue with attnMode := m, pulse := false } := by
  have hsome : attnModeOf m.code = some m := by cases m <;> rfl
  rw [State.writeAttnMode, hsome]

theorem State.writeAttnMode_queue_of_code (s : State) (m : AttnMode) :
    (s.writeAttnMode m.code).queue =
      if m = s.queue.attnMode then s.queue else { s.queue with attnMode := m, pulse := false } := by
  rw [State.writeAttnMode_of_code]
  split <;> rfl

/-- The ATTN line after a change of mode: no pulse runs, and in LEVEL it shows whether there are records (6, R115). -/
theorem EventQueue.attnActive_of_changed (q : EventQueue) (m : AttnMode) :
    { q with attnMode := m, pulse := false }.attnActive = (m == .level && !q.records.isEmpty) := by
  cases m <;> rfl

/-- ATTN_MODE_WRITE (6, R115): the byte's effect, and the port after it. -/
theorem exec_attnModeWrite {s : State} (h : s.AnswersAt 0x0B) (v : Byte) :
    exec (.attnModeWrite v) s = .next ((s.writeAttnMode v).pointAfter 0x0B .write) :=
  exec_quietWrite h rfl rfl (by simp) (by simp) (by simp) (by simp)

/-- Settles O21: each byte has its register's effect, and no line follows any of them. -/
theorem plainRegisterWrites : Obligations.PlainRegisterWrites := by
  intro s v
  refine ⟨fun h => ?sticky, fun h => ?filter, fun h => ?page, fun h => ?pointer, fun h => ?attn⟩
  case sticky =>
    exact ⟨_, exec_quietWrite (u := s.writeSticky v) h rfl rfl rfl rfl rfl rfl, rfl, rfl, rfl, by simp [Keeps]⟩
  case filter =>
    exact ⟨_, exec_quietWrite (u := s.writeFilter v) h rfl rfl rfl rfl rfl rfl, rfl, rfl, by simp [Keeps]⟩
  case page =>
    exact ⟨_, exec_quietWrite (u := s.writePage v) h rfl rfl rfl rfl rfl rfl, rfl, by simp [Keeps]⟩
  case pointer =>
    exact ⟨_, congrArg Host.Outcome.next (State.beginTransaction_of_answering h _ _ _), rfl, by simp [Keeps]⟩
  case attn =>
    refine ⟨_, exec_attnModeWrite h v, fun hv => ?ignored, fun m hm => ?taken⟩
    case ignored =>
      rw [s.writeAttnMode_of_ge hv]
      exact ⟨rfl, by simp [Keeps]⟩
    case taken =>
      subst hm
      have hqueue := s.writeAttnMode_queue_of_code m
      have hport : (s.writeAttnMode m.code).port = s.port := by
        rw [s.writeAttnMode_of_code]
        split <;> rfl
      refine ⟨hqueue, by simp [hport], by simp [Keeps], fun hne => ?_⟩
      show (s.writeAttnMode m.code).queue.attnActive = _
      rw [hqueue, if_neg hne, EventQueue.attnActive_of_changed]

/-! ## FLUSH (6, R113, R114) -/

/-- Settles O16: FLUSH is taken in IDLE and BUSY, and moves nothing the lines follow. -/
theorem flushEmptiesQueue : Obligations.FlushEmptiesQueue := by
  intro s htakes removed
  have hexec : exec .flush s = .next (s.takeFlush.pointAfter 0x06 .write) := by
    have htaken := State.commandByte_taken (n := .flush) htakes (.inr rfl)
    rw [State.driveFrom_quiet (by simp [State.takeCommand]) (by simp [State.takeCommand])
      (by simp [State.takeCommand]) (by simp [State.takeCommand])] at htaken
    exact congrArg Host.Outcome.next htaken
  refine ⟨_, hexec, ?queue, ?command, ?port, ?frame⟩
  case queue => exact State.endCommand_queue _ _ _ _
  case command => exact State.endCommand_command _ _ _ _
  case port => simp
  case frame => simp [Keeps]

/-! ## Rows that name an address (log 2, log 13) -/

/-- A byte on the bus has the effect that `f` gives it on a state with the same port, and no other. -/
theorem State.onBus_congr {s : State} {f g : State → State} (h : ∀ u : State, u.port = s.port → f u = g u)
    (d : Direction) (a : Byte) : s.onBus d a f = s.onBus d a g := by
  have hbegin : s.beginTransaction d (a + 1) f = s.beginTransaction d (a + 1) g := by
    simp only [State.beginTransaction, h s rfl, h (s.withFreeDraws (s.freeDraws + 1)) rfl]
  have hfurther : s.furtherByte d f = s.furtherByte d g := by
    simp only [State.furtherByte, h s rfl]
  rw [State.onBus, State.onBus, hbegin, hfurther]

/-- The read at the register pointer is the read of the address it names. -/
theorem exec_latchedFieldRead_at {s : State} {a : Byte} (h : s.port.pointer = a) :
    exec .latchedFieldRead s = .next (s.onBus .read a fun u => u.hostRead a) := by
  subst h
  refine congrArg Host.Outcome.next (State.onBus_congr (fun u hu => ?_) _ _)
  rw [hu]

/-- Settles O26: where the open write transaction stands at a row's address, the row is a further byte of it. -/
theorem rowsActAtTheirAddress : Obligations.RowsActAtTheirAddress := by
  refine ⟨fun s i address v hi hopen hpointer => ?_, fun s h => exec_latchedFieldRead_at h,
    fun s h => exec_latchedFieldRead_at h⟩
  have hplace : s.port.place .write = some address := by simp [HostPort.place, hopen, hpointer]
  rw [exec_of_writtenAt hi, State.onBus_further hplace]
  refine congrArg Host.Outcome.next ?_
  simp only [State.furtherByte, hopen, hpointer]

end Sys2Proof.Machine
end

section
/-! SUPPORT. The host's reads of the queue port (6, R109 to R111, R117) and of the latched fields (12, R180, R183). -/

namespace Sys2Proof.Machine

/-! ## The queue port (6, R110, R111) -/

theorem exec_hold {s : State} (h : s.AnswersReads) : exec .hold s = .next (s.readKind.pointAfter 0x10 .read) :=
  congrArg Host.Outcome.next (State.onBus_of_answersReads h _ _)

theorem exec_pop {s : State} (h : s.AnswersReads) : exec .pop s = .next (s.readValueB.pointAfter 0x13 .read) :=
  congrArg Host.Outcome.next (State.onBus_of_answersReads h _ _)

theorem State.readKind_of_nil {s : State} (h : s.queue.records = []) :
    s.readKind = (s.withQueue { s.queue with hold := .free }).send 0 := by
  rw [State.readKind, h]

theorem State.readKind_of_cons {s : State} {head : EventRecord} {rest : List EventRecord}
    (h : s.queue.records = head :: rest) :
    s.readKind = (s.withQueue { s.queue with hold := .held }).send head.kind.code := by
  rw [State.readKind, h]

/-- Settles O28: the port's two reads that change the queue, by the hold state and the head. -/
theorem queuePortHoldsAndPops : Obligations.QueuePortHoldsAndPops := by
  refine fun s => ⟨fun h => ⟨_, exec_hold h, ?hold, by simp [Keeps]⟩, fun h => ⟨_, exec_pop h, ?pop, by simp [Keeps]⟩⟩
  case hold =>
    cases hrecords : s.queue.records with
    | nil =>
      rw [State.readKind_of_nil hrecords]
      exact ⟨rfl, rfl⟩
    | cons head rest =>
      rw [State.readKind_of_cons hrecords]
      exact ⟨rfl, rfl⟩
  case pop =>
    have hqueue : (s.readValueB.pointAfter 0x13 .read).queue = s.queue.afterValueB := rfl
    have hport : (s.readValueB.pointAfter 0x13 .read).port =
        { s.port.afterRead 0x13 with sent := some (s.queue.portField EventRecord.valueB) } := rfl
    rw [hqueue, hport, EventQueue.afterValueB, EventQueue.portField]
    cases hhold : s.queue.hold with
    | void => exact ⟨rfl, rfl⟩
    | free => cases hrecords : s.queue.records <;> exact ⟨rfl, rfl⟩
    | held =>
      cases hrecords : s.queue.records with
      | nil => rfl
      | cons head rest =>
        dsimp only
        rw [EventQueue.popHead_of_cons hrecords]
        exact ⟨rfl, rfl, rfl, rfl, rfl, rfl, rfl⟩

/-! ## Where the latched fields stand (12, R183) -/

/-- A field of R183's list as the read latch names it: the round counter is on no page (log 10). -/
def latchedFieldOn (page : Byte) (p : Nat × Nat) : LatchedField :=
  ⟨if p.1 = 0x0C then none else some page, p.1, p.2⟩

/-- A field, given by its lowest address and its number of bytes, has a byte at address `a`. -/
def covers (a : Nat) (p : Nat × Nat) : Bool := decide (p.1 ≤ a ∧ a < p.1 + p.2)

theorem covers_iff {a : Nat} {p : Nat × Nat} : covers a p = true ↔ p.1 ≤ a ∧ a < p.1 + p.2 := decide_eq_true_iff

/-- Of fields in order that do not overlap, the one that covers an address is the first that does. -/
theorem find?_covers_iff {fields : List (Nat × Nat)} (hd : fields.Pairwise fun p q => p.1 + p.2 ≤ q.1) {a : Nat}
    {p : Nat × Nat} : fields.find? (covers a) = some p ↔ p ∈ fields ∧ covers a p = true := by
  refine ⟨fun h => ⟨List.mem_of_find?_eq_some h, List.find?_some h⟩, ?_⟩
  rintro ⟨hp, ha⟩
  induction fields with
  | nil => cases hp
  | cons q fields ih =>
    obtain ⟨hq, hd⟩ := List.pairwise_cons.1 hd
    obtain rfl | hp := List.mem_cons.1 hp
    · exact List.find?_cons_of_pos ha
    · have hbeyond : ¬ covers a q = true := by
        have := hq p hp
        rw [covers_iff] at ha ⊢
        omega
      rw [List.find?_cons_of_neg hbeyond, ih hd hp]

/-- The fields that each of the twelve entries of a page has at the offsets of `fields` (12, R184). -/
def entryFields (fields : List (Nat × Nat)) : List (Nat × Nat) :=
  (List.range 12).flatMap fun n => fields.map fun p => (0x20 + 16 * n + p.1, p.2)

theorem mem_entryFields {fields : List (Nat × Nat)} {f : Nat × Nat} :
    f ∈ entryFields fields ↔ ∃ n < 12, ∃ p ∈ fields, (0x20 + 16 * n + p.1, p.2) = f := by
  simp [entryFields]

/-- The field of an entry page that covers an address covers its offset in the address's own entry. -/
theorem entryFields_covering {fields : List (Nat × Nat)} (hfit : ∀ p ∈ fields, p.1 + p.2 ≤ 16) {n off : Nat}
    (hn : n < 12) (ho : off < 16) (f : Nat × Nat) :
    (f ∈ entryFields fields ∧ covers (0x20 + 16 * n + off) f = true) ↔
      ∃ p, (p ∈ fields ∧ covers off p = true) ∧ (0x20 + 16 * n + p.1, p.2) = f := by
  simp only [mem_entryFields, covers_iff]
  constructor
  · rintro ⟨⟨m, hm, p, hp, rfl⟩, hlow, hhigh⟩
    have hfits := hfit p hp
    dsimp only at hlow hhigh
    obtain rfl : m = n := by omega
    exact ⟨p, ⟨hp, by omega, by omega⟩, rfl⟩
  · rintro ⟨p, ⟨hp, hlow, hhigh⟩, rfl⟩
    exact ⟨⟨n, hn, p, hp, rfl⟩, by dsimp only; omega, by dsimp only; omega⟩

/-- The fields a page shows beside the round counter (12, R183). -/
def pageFields (page : Byte) : List (Nat × Nat) := (latchedFields page.toNat).tail

theorem latchedFields_eq (page : Byte) : latchedFields page.toNat = (0x0C, 2) :: pageFields page := rfl

/-- The fields of the keys, of the live channels and of the live globals, and none on any other page (12, R183). -/
theorem pageFields_eq (page : Byte) :
    pageFields page =
      if page = 4 ∨ page = 5 then entryFields [(5, 2), (7, 2), (9, 2)]
      else if page = 8 then [(0x21, 2), (0x27, 2), (0x2F, 2), (0x31, 2)]
      else if page = 9 ∨ page = 10 then entryFields [(0, 3), (5, 2), (7, 2)]
      else [] := by
  simp only [← BitVec.toNat_inj]
  rfl

/-- The fields of a page stand above the common region, and none is empty. -/
theorem bounds_of_mem_pageFields {page : Byte} {f : Nat × Nat} (h : f ∈ pageFields page) : 0x20 ≤ f.1 ∧ 0 < f.2 := by
  have hentry {fields : List (Nat × Nat)} (hpos : ∀ p ∈ fields, 0 < p.2) (h : f ∈ entryFields fields) :
      0x20 ≤ f.1 ∧ 0 < f.2 := by
    obtain ⟨n, -, p, hp, rfl⟩ := mem_entryFields.1 h
    exact ⟨by dsimp only; omega, hpos p hp⟩
  have hglobals : ∀ f ∈ [(0x21, 2), (0x27, 2), (0x2F, 2), (0x31, 2)], 0x20 ≤ f.1 ∧ 0 < f.2 := by decide
  rw [pageFields_eq] at h
  split at h
  · exact hentry (by decide) h
  split at h
  · exact hglobals f h
  split at h
  · exact hentry (by decide) h
  · cases h

/-! The latched field at an address, region by region. -/

theorem latchedFieldAt_counter (page : Byte) {a : Nat} (h : a = 0x0C ∨ a = 0x0D) :
    latchedFieldAt page a = some (latchedFieldOn page (0x0C, 2)) :=
  if_pos h

theorem latchedFieldAt_common (page : Byte) {a : Nat} (h : a < 0x20) (hc : ¬ (a = 0x0C ∨ a = 0x0D)) :
    latchedFieldAt page a = none := by
  rw [latchedFieldAt, if_neg hc, if_pos h]

theorem latchedFieldAt_keys {page : Byte} (hp : page = 4 ∨ page = 5) {n off : Nat} (hn : n < 12) (ho : off < 16) :
    latchedFieldAt page (0x20 + 16 * n + off) =
      ([(5, 2), (7, 2), (9, 2)].find? (covers off)).map fun p => latchedFieldOn page (0x20 + 16 * n + p.1, p.2) := by
  have hne (p : Nat) : 0x20 + 16 * n + p ≠ 0x0C := by omega
  rw [latchedFieldAt, entryOffset_eq ho, Nat.add_sub_cancel, if_neg (by omega), if_neg (by omega), if_pos hp,
    if_neg (by omega)]
  simp only [latchedFieldOn, hne, if_false]
  interval_cases off <;> rfl

theorem latchedFieldAt_channels {page : Byte} (hp : page = 9 ∨ page = 10) {n off : Nat} (hn : n < 12) (ho : off < 16) :
    latchedFieldAt page (0x20 + 16 * n + off) =
      ([(0, 3), (5, 2), (7, 2)].find? (covers off)).map fun p => latchedFieldOn page (0x20 + 16 * n + p.1, p.2) := by
  have hne (p : Nat) : 0x20 + 16 * n + p ≠ 0x0C := by omega
  have h45 : ¬ (page = 4 ∨ page = 5) := by rcases hp with rfl | rfl <;> decide
  have h8 : page ≠ 8 := by rcases hp with rfl | rfl <;> decide
  rw [latchedFieldAt, entryOffset_eq ho, Nat.add_sub_cancel, if_neg (by omega), if_neg (by omega), if_neg h45,
    if_neg h8, if_pos hp, if_neg (by omega)]
  simp only [latchedFieldOn, hne, if_false]
  interval_cases off <;> rfl

theorem latchedFieldAt_beyond {page : Byte} (h8 : page ≠ 8) {a : Nat} (h : 0xE0 ≤ a) :
    latchedFieldAt page a = none := by
  simp only [latchedFieldAt, if_pos h, if_neg h8, if_neg (show ¬ (a = 0x0C ∨ a = 0x0D) by omega),
    if_neg (show ¬ a < 0x20 by omega), ite_self]

theorem latchedFieldAt_globals {a : Nat} (h : 0x20 ≤ a) :
    latchedFieldAt 8 a =
      ([(0x21, 2), (0x27, 2), (0x2F, 2), (0x31, 2)].find? (covers a)).map (latchedFieldOn 8) := by
  rw [latchedFieldAt, if_neg (by omega), if_neg (by omega), if_neg (by decide), if_pos rfl]
  obtain hlow | hhigh := Nat.lt_or_ge a 0x33
  · interval_cases a <;> rfl
  · have hend : ∀ p ∈ [(0x21, 2), (0x27, 2), (0x2F, 2), (0x31, 2)], p.1 + p.2 ≤ 0x33 := by decide
    have hnone : [(0x21, 2), (0x27, 2), (0x2F, 2), (0x31, 2)].find? (covers a) = none := by
      refine List.find?_eq_none.2 fun p hp => ?_
      have := hend p hp
      rw [covers_iff]
      omega
    rw [hnone, if_neg (by omega), if_neg (by omega), if_neg (by omega), if_neg (by omega)]
    rfl

theorem latchedFieldAt_other {page : Byte} {a : Nat} (h : 0x20 ≤ a) (h45 : ¬ (page = 4 ∨ page = 5)) (h8 : page ≠ 8)
    (h910 : ¬ (page = 9 ∨ page = 10)) : latchedFieldAt page a = none := by
  rw [latchedFieldAt, if_neg (by omega), if_neg (by omega), if_neg h45, if_neg h8, if_neg h910]

/-- On a page of entries, the latched field at an address is the field of the entry that covers it. -/
theorem latchedFieldAt_entry_iff {page : Byte} {fields : List (Nat × Nat)} (h8 : page ≠ 8)
    (hd : fields.Pairwise fun p q => p.1 + p.2 ≤ q.1) (hfit : ∀ p ∈ fields, p.1 + p.2 ≤ 16)
    (heq : ∀ n off, n < 12 → off < 16 → latchedFieldAt page (0x20 + 16 * n + off) =
      (fields.find? (covers off)).map fun p => latchedFieldOn page (0x20 + 16 * n + p.1, p.2))
    {a : Nat} (h : 0x20 ≤ a) (f : LatchedField) :
    latchedFieldAt page a = some f ↔
      ∃ p, (p ∈ entryFields fields ∧ covers a p = true) ∧ latchedFieldOn page p = f := by
  obtain hlow | hhigh := Nat.lt_or_ge a 0xE0
  · obtain ⟨n, off, hn, ho, rfl⟩ : ∃ n off, n < 12 ∧ off < 16 ∧ a = 0x20 + 16 * n + off :=
      ⟨(a - 0x20) / 16, (a - 0x20) % 16, by omega, by omega, by omega⟩
    simp only [heq n off hn ho, Option.map_eq_some_iff, find?_covers_iff hd, entryFields_covering hfit hn ho]
    constructor
    · rintro ⟨p, hp, rfl⟩
      exact ⟨_, ⟨p, hp, rfl⟩, rfl⟩
    · rintro ⟨_, ⟨p, hp, rfl⟩, rfl⟩
      exact ⟨p, hp, rfl⟩
  · rw [latchedFieldAt_beyond h8 hhigh]
    refine iff_of_false nofun ?_
    rintro ⟨_, ⟨hmem, ha⟩, -⟩
    obtain ⟨n, hn, p, hp, rfl⟩ := mem_entryFields.1 hmem
    have hfits := hfit p hp
    rw [covers_iff] at ha
    dsimp only at ha
    omega

/-- The latched field at an address of a page is the field of the page that covers it. -/
theorem latchedFieldAt_page_iff {page : Byte} {a : Nat} (h : 0x20 ≤ a) (f : LatchedField) :
    latchedFieldAt page a = some f ↔
      ∃ p, (p ∈ pageFields page ∧ covers a p = true) ∧ latchedFieldOn page p = f := by
  rw [pageFields_eq]
  split
  next hp =>
    refine latchedFieldAt_entry_iff (by rcases hp with rfl | rfl <;> decide) ?_ ?_
      (fun n off hn ho => latchedFieldAt_keys hp hn ho) h f
    · decide
    · decide
  split
  next h8 =>
    subst h8
    rw [latchedFieldAt_globals h, Option.map_eq_some_iff]
    simp only [find?_covers_iff (fields := [(0x21, 2), (0x27, 2), (0x2F, 2), (0x31, 2)]) (by decide)]
  split
  next h8 hp =>
    refine latchedFieldAt_entry_iff h8 ?_ ?_ (fun n off hn ho => latchedFieldAt_channels hp hn ho) h f
    · decide
    · decide
  next h45 h8 h910 => simp [latchedFieldAt_other h h45 h8 h910]

/-- The latched field at an address is the field of R183's list that covers it. -/
theorem latchedFieldAt_iff (page : Byte) (a : Nat) (f : LatchedField) :
    latchedFieldAt page a = some f ↔
      ∃ p, (p ∈ latchedFields page.toNat ∧ covers a p = true) ∧ latchedFieldOn page p = f := by
  have hcounter : covers a (0x0C, 2) = true ↔ a = 0x0C ∨ a = 0x0D := by
    rw [covers_iff]
    dsimp only
    omega
  have hlist : (∃ p, (p ∈ latchedFields page.toNat ∧ covers a p = true) ∧ latchedFieldOn page p = f) ↔
      ((a = 0x0C ∨ a = 0x0D) ∧ latchedFieldOn page (0x0C, 2) = f) ∨
        ∃ p, (p ∈ pageFields page ∧ covers a p = true) ∧ latchedFieldOn page p = f := by
    simp only [latchedFields_eq, List.mem_cons, or_and_right, exists_or, and_assoc, exists_eq_left, hcounter]
  rw [hlist]
  obtain hlow | hhigh := Nat.lt_or_ge a 0x20
  · have hpage : ¬ ∃ p, (p ∈ pageFields page ∧ covers a p = true) ∧ latchedFieldOn page p = f := by
      rintro ⟨p, ⟨hp, ha⟩, -⟩
      obtain ⟨hbase, -⟩ := bounds_of_mem_pageFields hp
      rw [covers_iff] at ha
      omega
    by_cases hc : a = 0x0C ∨ a = 0x0D
    · simp [latchedFieldAt_counter page hc, hc, hpage]
    · simp [latchedFieldAt_common page hlow hc, hc, hpage]
  · have hc : ¬ (a = 0x0C ∨ a = 0x0D) := by omega
    simp [latchedFieldAt_page_iff hhigh, hc]

/-! ## LATCHED_FIELD_READ (12, R180, R183) -/

theorem latchedFieldAt_of_mem {page : Byte} {p : Nat × Nat} {a : Nat} (hp : p ∈ latchedFields page.toNat)
    (hlow : p.1 ≤ a) (hhigh : a < p.1 + p.2) : latchedFieldAt page a = some (latchedFieldOn page p) :=
  (latchedFieldAt_iff _ _ _).2 ⟨p, ⟨hp, covers_iff.2 ⟨hlow, hhigh⟩⟩, rfl⟩

theorem latchedFieldAt_of_not_mem {page : Byte} {a : Nat}
    (h : ∀ p ∈ latchedFields page.toNat, ¬ (p.1 ≤ a ∧ a < p.1 + p.2)) : latchedFieldAt page a = none := by
  refine Option.eq_none_iff_forall_ne_some.2 fun f hf => ?_
  obtain ⟨p, ⟨hp, ha⟩, -⟩ := (latchedFieldAt_iff _ _ _).1 hf
  exact h p hp (covers_iff.1 ha)

theorem width_pos {page : Byte} {p : Nat × Nat} (hp : p ∈ latchedFields page.toNat) : 0 < p.2 := by
  rw [latchedFields_eq, List.mem_cons] at hp
  obtain rfl | hp := hp
  · decide
  · exact (bounds_of_mem_pageFields hp).2

/-- No latched field reaches into the queue port (12, R183, R184). -/
theorem outside_queuePort {page : Byte} {p : Nat × Nat} {a : Nat} (hp : p ∈ latchedFields page.toNat)
    (hlow : p.1 ≤ a) (hhigh : a < p.1 + p.2) : a < 0x10 ∨ 0x13 < a := by
  rw [latchedFields_eq, List.mem_cons] at hp
  obtain rfl | hp := hp
  · dsimp only at hhigh
    omega
  · obtain ⟨hbase, -⟩ := bounds_of_mem_pageFields hp
    omega

/-- A read outside the queue port (12, R183). -/
theorem State.readAt_eq {s : State} {a : Byte} (ha : a.toNat < 0x10 ∨ 0x13 < a.toNat) :
    s.readAt a =
      (latchedFieldAt s.port.page a.toNat).elim (s.send (s.liveByte a)) fun f => s.readField f a := by
  have hne {b : Byte} (hb : 0x10 ≤ b.toNat ∧ b.toNat ≤ 0x13) : a ≠ b := by
    rintro rfl
    omega
  unfold State.readAt
  rw [if_neg (hne (by decide)), if_neg (hne (by decide)), if_neg (hne (by decide)), if_neg (hne (by decide))]
  cases latchedFieldAt s.port.page a.toNat <;> rfl

theorem State.readAt_of_field {s : State} {p : Nat × Nat} {a : Byte} (hp : p ∈ latchedFields s.port.page.toNat)
    (hlow : p.1 ≤ a.toNat) (hhigh : a.toNat < p.1 + p.2) :
    s.readAt a = s.readField (latchedFieldOn s.port.page p) a := by
  rw [State.readAt_eq (outside_queuePort hp hlow hhigh), latchedFieldAt_of_mem hp hlow hhigh, Option.elim_some]

theorem State.readField_lowest {s : State} {f : LatchedField} {a : Byte} (h : a.toNat = f.base) :
    s.readField f a = (s.withPort { s.port with latch := some (s.copyField f) }).send (s.liveByte a) :=
  if_pos h

theorem State.readField_latched {s : State} {f : LatchedField} {a : Byte} {l : Latch} (ha : a.toNat ≠ f.base)
    (hl : s.port.latch = some l) (hpage : l.page = f.page) (hbase : l.base = f.base) :
    s.readField f a = s.send (l.copy.getD (a.toNat - f.base) 0) := by
  rw [State.readField, if_neg ha, hl]
  exact if_pos ⟨hpage, hbase⟩

theorem State.readField_not_latched {s : State} {f : LatchedField} {a : Byte} (ha : a.toNat ≠ f.base)
    (hl : ∀ l, s.port.latch = some l → ¬ (l.page = f.page ∧ l.base = f.base)) :
    s.readField f a = s.send (s.liveByte a) := by
  rw [State.readField, if_neg ha]
  split
  next l h => exact if_neg (hl l h)
  · rfl

theorem State.copyField_getD (s : State) (f : LatchedField) {i : Nat} (h : i < f.width) :
    (s.copyField f).copy.getD i 0 = s.liveByte (BitVec.ofNat 8 (f.base + i)) := by
  simp [State.copyField, h]

/-- What a read sends where it keeps the latch. -/
theorem exec_latchedFieldRead_sends {s : State} (h : s.AnswersReads) {byte : Byte}
    (hr : s.readAt s.port.pointer = s.send byte) :
    ∃ t, exec .latchedFieldRead s = .next t ∧
      t.port = { s.port.afterRead s.port.pointer with sent := some byte } ∧ Keeps [.port] s t := by
  refine ⟨_, exec_latchedFieldRead h, ?_⟩
  rw [State.hostRead, hr]
  exact ⟨rfl, by simp [Keeps]⟩

/-- A later byte of a field whose copy the latch took in `s` is the byte of that copy, whatever the part has met since. -/
theorem exec_latchedFieldRead_later {s u : State} {p : Nat × Nat} (hp : p ∈ latchedFields s.port.page.toNat)
    (h : u.AnswersReads) (hlatch : u.port.latch = some (s.copyField (latchedFieldOn s.port.page p)))
    (hpage : u.port.page = s.port.page ∨ p.1 = 0x0C) {i : Nat} (hi : 1 ≤ i) (hwidth : i < p.2)
    (hpointer : u.port.pointer.toNat = p.1 + i) :
    ∃ v, exec .latchedFieldRead u = .next v ∧
      v.port = { u.port.afterRead u.port.pointer with
        sent := some (s.liveByte (BitVec.ofNat 8 (p.1 + i))) } ∧ Keeps [.port] u v := by
  have hmem : p ∈ latchedFields u.port.page.toNat := by
    obtain hsame | hcounter := hpage
    · rwa [hsame]
    · rw [latchedFields_eq, List.mem_cons] at hp ⊢
      refine .inl (hp.resolve_right fun hmem => ?_)
      obtain ⟨hbase, -⟩ := bounds_of_mem_pageFields hmem
      omega
  have hfield : latchedFieldOn u.port.page p = latchedFieldOn s.port.page p := by
    obtain hsame | hcounter := hpage
    · rw [hsame]
    · simp [latchedFieldOn, hcounter]
  have hoffset : u.port.pointer.toNat - (latchedFieldOn s.port.page p).base = i := by
    rw [hpointer]
    exact Nat.add_sub_cancel_left ..
  have hhigher : u.port.pointer.toNat ≠ (latchedFieldOn s.port.page p).base := by
    rw [hpointer]
    exact Nat.ne_of_gt (Nat.lt_add_of_pos_right hi)
  refine exec_latchedFieldRead_sends h ?_
  rw [State.readAt_of_field hmem (by omega) (by omega), hfield, State.readField_latched hhigher hlatch rfl rfl, hoffset,
    State.copyField_getD s (latchedFieldOn s.port.page p) hwidth]
  rfl

/-- Settles O29: the lowest byte of a field latches its copy, from which the other bytes are sent while it holds. -/
theorem latchedFieldsNeverTorn : Obligations.LatchedFieldsNeverTorn := by
  intro s h a sends
  refine ⟨fun f hf ha => ?lowest, fun f hf hlow hhigh hheld => ?higher, fun ha => ?port, fun ha hno => ?other⟩
  case lowest =>
    have hwidth : 0 < f.2 := width_pos hf
    have hread : s.readAt s.port.pointer = (s.withPort { s.port with
        latch := some (s.copyField (latchedFieldOn s.port.page f)) }).send (s.liveByte s.port.pointer) := by
      rw [State.readAt_of_field hf ha.ge (by omega), State.readField_lowest ha]
    refine ⟨_, exec_latchedFieldRead h, ?_⟩
    rw [State.hostRead, hread]
    refine ⟨rfl, ⟨_, rfl, rfl, rfl⟩, by simp [Keeps], fun u i hu hlatch hpage hi hiw hpointer => ?_⟩
    exact exec_latchedFieldRead_later hf hu hlatch hpage hi hiw hpointer
  case higher =>
    refine exec_latchedFieldRead_sends h ?_
    rw [State.readAt_of_field hf hlow.le hhigh]
    refine State.readField_not_latched hlow.ne' fun l hl hfield => hheld ⟨l, hl, hfield⟩
  case port =>
    refine exec_latchedFieldRead_sends h ?_
    have hport : s.readAt s.port.pointer =
        s.send (s.queue.portField fun e => if a = 0x11 then e.index else e.valueA) := by
      obtain ha | ha := ha
      · rw [show s.port.pointer = 0x11 from BitVec.eq_of_toNat_eq ha]
        simp only [ha, if_true]
        rfl
      · rw [show s.port.pointer = 0x12 from BitVec.eq_of_toNat_eq ha]
        simp only [ha]
        rfl
    exact hport
  case other =>
    refine exec_latchedFieldRead_sends h ?_
    rw [State.readAt_eq ha, latchedFieldAt_of_not_mem hno, Option.elim_none]

end Sys2Proof.Machine
end

section
/-! SUPPORT. The timed outputs: fade steps and frames of the indicator lines (11, R173, R175), and the ATTN line (6, R115
to R117). -/

namespace Sys2Proof.Machine

/-! ## Lines that keep their targets -/

/-- A target is made of the line's source, its host bit, its two levels and its dark flag (11, R171). -/
theorem State.targetLevel_of_line (s : State) {l l' : IndicatorLine} (hsource : l'.source = l.source)
    (hhost : l'.hostBit = l.hostBit) (hon : l'.onLevel = l.onLevel) (hoff : l'.offLevel = l.offLevel)
    (hdark : l'.dozeDark = l.dozeDark) : s.targetLevel l' = s.targetLevel l := by
  simp only [State.targetLevel, State.sourceLevel, hsource, hhost, hon, hoff, hdark]

/-- An event that changes the target of no line leaves each line as it made it. -/
theorem State.driveFrom_kept {s t : State} (h : ∀ i : LineId, s.targetLevel s.lines[i] = t.targetLevel t.lines[i]) :
    State.driveFrom s t = t := by
  have hlines : (State.driveFrom s t).lines = t.lines := by
    refine table_ext fun i => ?_
    have htarget := h i
    simp only [State.driveFrom, State.withLines_lines, Fin.getElem_fin, getElem_tab] at htarget ⊢
    rw [if_pos htarget]
  calc State.driveFrom s t = t.withLines (State.driveFrom s t).lines := rfl
    _ = t := by rw [hlines, State.withLines_self]

/-! ## Fade steps (11, R173) -/

theorem stepToward_toNat (level target : BitVec 6) :
    (stepToward level target).toNat =
      if level.toNat < target.toNat then level.toNat + 1
      else if target.toNat < level.toNat then level.toNat - 1 else level.toNat := by
  simp only [stepToward, BitVec.lt_def]
  split
  · bv_omega
  · split <;> bv_omega

theorem State.setLine_lines_same (s : State) (i : LineId) (l : IndicatorLine) : (s.setLine i l).lines[i] = l := by
  simp [State.setLine]

theorem State.setLine_lines_other (s : State) {i j : LineId} (h : j ≠ i) (l : IndicatorLine) :
    (s.setLine i l).lines[j] = s.lines[j] := by
  simp [State.setLine, h]

/-- The expiry of a running fade timer steps its own line, and no line's target. -/
theorem exec_fadeTimerExpiry_of_running {s : State} (h : s.Runs) {i : LineId} (hrun : s.lines[i].timer ≠ none) :
    exec (.fadeTimerExpiry i) s = .next (s.setLine i (s.lines[i].fadeStep (s.targetLevel s.lines[i]))) := by
  have hexpire : s.expireFadeTimer i = s.setLine i (s.lines[i].fadeStep (s.targetLevel s.lines[i])) := by
    obtain ⟨ms, hms⟩ := Option.ne_none_iff_exists'.1 hrun
    rw [State.expireFadeTimer, hms]
  refine congrArg Host.Outcome.next ?_
  rw [State.inside_of_runs h, hexpire]
  refine State.driveFrom_kept fun j => ?_
  by_cases hj : j = i
  · subst hj
    rw [s.setLine_lines_same]
    exact (s.targetLevel_of_line rfl rfl rfl rfl rfl).symm
  · rw [s.setLine_lines_other hj]
    rfl

theorem exec_fadeTimerExpiry_of_stopped {s : State} (h : s.Runs) {i : LineId} (hstop : s.lines[i].timer = none) :
    exec (.fadeTimerExpiry i) s = .next s := by
  have hexpire : s.expireFadeTimer i = s := by rw [State.expireFadeTimer, hstop]
  refine congrArg Host.Outcome.next ?_
  rw [State.inside_of_runs h, hexpire, State.driveFrom_self]

/-! ## Pulses and frames (6, R117; 11, R175) -/

theorem exec_pulseTimerExpiry {s : State} (h : s.Runs) : exec .pulseTimerExpiry s = .next s.endPulse := by
  refine congrArg Host.Outcome.next ?_
  rw [State.inside_of_runs h]
  exact State.driveFrom_quiet rfl rfl rfl Iff.rfl

theorem State.startFrame_lines (s : State) (i : LineId) :
    s.startFrame.lines[i] = { s.lines[i] with frameDuty := s.lines[i].level, frameInvert := s.lines[i].invert } := by
  simp [State.startFrame]

theorem exec_pwmFrame {s : State} (h : s.Runs) : exec .pwmFrame s = .next s.startFrame := by
  refine congrArg Host.Outcome.next ?_
  rw [State.inside_of_runs h]
  refine State.driveFrom_kept fun i => ?_
  rw [s.startFrame_lines i]
  exact (s.targetLevel_of_line rfl rfl rfl rfl rfl).symm

theorem IndicatorLine.drivenHigh_eq (l : IndicatorLine) (moment : Nat) :
    l.drivenHigh moment = if moment < l.frameDuty.toNat then l.frameInvert else !l.frameInvert := by
  unfold IndicatorLine.drivenHigh
  split <;> simp [*]

/-- Settles O41: a fade step and a frame change lines but no target, and the end of a pulse changes no line. -/
theorem timedOutputs : Obligations.TimedOutputs := by
  intro s hruns
  refine ⟨fun i hstop => exec_fadeTimerExpiry_of_stopped hruns hstop, fun i hrun => ?fade,
    ⟨_, exec_pulseTimerExpiry hruns, rfl, by simp [Keeps]⟩,
    ⟨_, exec_pwmFrame hruns, by simp [Keeps], fun i => ⟨s.startFrame_lines i, fun moment _ => ?frame⟩⟩, ?off, ?level,
    ?pulse⟩
  case fade =>
    intro l target
    refine ⟨_, exec_fadeTimerExpiry_of_running hruns hrun, fun j hj => s.setLine_lines_other hj _, ?_⟩
    rw [s.setLine_lines_same]
    exact ⟨rfl, stepToward_toNat _ _, rfl, by simp [Keeps]⟩
  case frame =>
    rw [s.startFrame_lines i, IndicatorLine.drivenHigh_eq]
  case off =>
    intro hmode
    rw [EventQueue.attnActive, hmode]
  case level =>
    intro hmode
    rw [EventQueue.attnActive, hmode]
    simp
  case pulse =>
    intro hmode
    rw [EventQueue.attnActive, hmode]

end Sys2Proof.Machine
end

section
/-! SUPPORT. Requests the command unit does not take (7, R123, R131), COMMIT outside STOPPED and TRIM (8, R139, R140),
and RESET (7, R130, R131). -/

namespace Sys2Proof.Machine

/-! ## Requests not taken (7, R123, R131) -/

section

variable {s : State}

theorem State.commandRequest_of_busy (hreset : s.command.pendingReset = none) (hbusy : s.command.inProgress ≠ none)
    {n : CommandName} (hn : n.takenWhenBusy = false) : s.commandRequest n.code = s.rejectCommand := by
  simp [State.commandRequest, State.busy, hreset, Option.isSome_iff_ne_none.2 hbusy, commandOf_code, hn]

theorem State.commandRequest_of_busy_unknown (hreset : s.command.pendingReset = none)
    (hbusy : s.command.inProgress ≠ none) {code : Byte} (hc : isCommandCode code = false) :
    s.commandRequest code = s.rejectCommand := by
  simp [State.commandRequest, State.busy, hreset, Option.isSome_iff_ne_none.2 hbusy, commandOf_eq_none hc]

/-- The row of a request refused while BUSY is its byte at CMD, and the unit only notes the refusal. -/
theorem RefusedWhileBusy.request {i : Instr} (hi : RefusedWhileBusy i) (hreset : s.command.pendingReset = none)
    (hbusy : s.command.inProgress ≠ none) :
    ∃ code, writtenAt i = some (0x06, code) ∧ s.commandRequest code = s.rejectCommand := by
  have hnamed (n : CommandName) (hn : n.takenWhenBusy = false) : s.commandRequest n.code = s.rejectCommand :=
    State.commandRequest_of_busy hreset hbusy hn
  cases i with
  | start => exact ⟨_, rfl, hnamed .start rfl⟩
  | stop => exact ⟨_, rfl, hnamed .stop rfl⟩
  | commit => exact ⟨_, rfl, hnamed .commit rfl⟩
  | recal => exact ⟨_, rfl, hnamed .recal rfl⟩
  | trim => exact ⟨_, rfl, hnamed .trim rfl⟩
  | doze => exact ⟨_, rfl, hnamed .doze rfl⟩
  | wake => exact ⟨_, rfl, hnamed .wake rfl⟩
  | unknownCmd code => exact ⟨code, rfl, State.commandRequest_of_busy_unknown hreset hbusy hi⟩
  | _ => exact hi.elim

theorem State.commandRequest_of_pendingReset (h : s.command.pendingReset ≠ none) (code : Byte) :
    s.commandRequest code = s :=
  if_pos (Option.isSome_iff_ne_none.2 h)

/-- A command that writes a byte to CMD acts as the row that stands for that byte there (log 2, log 13). -/
theorem exec_of_commandCode {i : Instr} {code : Byte}
    (hopen : ∀ v, i = .registerWrite v → s.port.transaction = some (.answered .write))
    (hcode : commandCodeOf i s.port.pointer = some code) :
    ∃ j, writtenAt j = some (0x06, code) ∧ exec i s = exec j s := by
  cases i with
  | registerWrite v =>
    obtain ⟨hpointer, rfl⟩ : s.port.pointer = 0x06 ∧ v = code := by simpa [commandCodeOf] using hcode
    exact ⟨.unknownCmd v, rfl,
      rowsActAtTheirAddress.1 s (.unknownCmd v) 0x06 v rfl (hopen v rfl) hpointer⟩
  | start | stop | commit | recal | trim | doze | wake | flush | abort | reset | unknownCmd =>
    obtain rfl := Option.some.inj hcode
    exact ⟨_, rfl, rfl⟩
  | _ => cases hcode

end

/-- Settles O7: a refusal sets one flag, and a byte under a pending RESET only moves the port. -/
theorem requestsNotTaken : Obligations.RequestsNotTaken := by
  refine ⟨fun s i htakes hbusy hrefused => ?busy, fun s i code hanswers hreset hopen hcode => ?pending⟩
  case busy =>
    obtain ⟨hanswers, hreset⟩ := htakes
    obtain ⟨code, hrow, hreject⟩ := hrefused.request hreset hbusy
    exact ⟨_, exec_quietWrite (u := s.rejectCommand) hanswers hrow hreject rfl rfl rfl rfl, rfl, rfl, by simp [Keeps]⟩
  case pending =>
    obtain ⟨j, hrow, hexec⟩ := exec_of_commandCode hopen hcode
    have hdiscard : s.writeAt 0x06 code = s := State.commandRequest_of_pendingReset hreset code
    exact ⟨_, hexec.trans (exec_quietWrite hanswers hrow hdiscard rfl rfl rfl rfl), rfl, by simp [Keeps]⟩

/-! ## COMMIT (7, R126; 8, R139, R140) -/

section

variable {s : State}

theorem State.takeCommit_of_invalid (hm : s.scan.mode ≠ .trim) {detail : Nat}
    (h : validationFailure s.store.staging = some detail) :
    s.takeCommit = s.endCommand 0x03 .invalidConfig (BitVec.ofNat 8 detail) := by
  rw [State.takeCommit, if_neg hm, h]
  rfl

theorem State.takeCommit_of_scanning (hm : s.scan.mode = .active ∨ s.scan.mode = .doze)
    (h : s.store.staging.valid = true) :
    s.takeCommit = (s.withStore { s.store with snapshot := some s.store.staging }).enterBusy .commit .commit := by
  have hnone : validationFailure s.store.staging = none := by simpa [Configuration.valid] using h
  obtain hm | hm := hm <;> simp [State.takeCommit, hm, hnone]

end

/-- Settles O9: neither end of a COMMIT moves what the lines follow. -/
theorem commitChecksStaging : Obligations.CommitChecksStaging := by
  refine fun s hidle hmode => ⟨fun detail hfails => ?invalid, fun hscanning hvalid => ?pending⟩
  case invalid =>
    refine ⟨_, exec_command_quiet (n := .commit) hidle rfl (State.takeCommit_of_invalid hmode hfails)
      (by simp) (by simp) (by simp) (by simp), ?command, ?queue, ?port, ?frame⟩
    case command => simp [hidle.noWork]
    case queue => simp [cmdDoneRecord, ResultCode.code]
    case port => simp
    case frame => simp [Keeps]
  case pending =>
    exact ⟨_, exec_command_quiet (n := .commit) hidle rfl (State.takeCommit_of_scanning hscanning hvalid)
      rfl rfl rfl Iff.rfl, rfl, rfl, rfl, by simp [Keeps]⟩

/-! ## RESET (7, R130, R131) -/

/-- RESET is taken in IDLE and BUSY, and moves nothing the lines follow (7, R123). -/
theorem exec_reset {s : State} (h : s.Takes) : exec .reset s = .next (s.takeReset.pointAfter 0x06 .write) := by
  have htaken := State.commandByte_taken (n := .reset) h (.inr rfl)
  rw [State.takeCommand, State.driveFrom_quiet (by simp) (by simp) (by simp) (by simp)] at htaken
  exact congrArg Host.Outcome.next htaken

theorem State.takeReset_of_kind {s : State} {kind : ResetKind} (h : s.command.arg0 = if kind = .warm then 0 else 1) :
    s.takeReset = s.withCommand { s.command with pendingReset := some kind } := by
  cases kind <;> simp [State.takeReset, resetKindOf, h]

theorem State.takeReset_of_badArg {s : State} (h : 2 ≤ s.command.arg0.toNat) :
    s.takeReset = s.endCommand 0x0A .badArg 0 := by
  rw [State.takeReset, resetKindOf_of_ge h]
  rfl

/-- Settles O18, by the argument. -/
theorem resetBecomesPending : Obligations.ResetBecomesPending := by
  refine fun s htakes => ⟨fun kind harg => ?accepted, fun harg => ?refused⟩
  case accepted =>
    have hexec := exec_reset htakes
    rw [State.takeReset_of_kind harg] at hexec
    exact ⟨_, hexec, rfl, rfl, by simp [Keeps]⟩
  case refused =>
    have hexec := exec_reset htakes
    rw [State.takeReset_of_badArg harg] at hexec
    refine ⟨_, hexec, ?command, ?queue, ?port, ?frame⟩
    case command => simp
    case queue => simp [cmdDoneRecord, ResultCode.code]
    case port => simp
    case frame => simp [Keeps]

end Sys2Proof.Machine
end

section
/-! SUPPORT. Bytes of the open write transaction at ARG0 and ARG1 (7, R120), and at the addresses that ignore every
write (12, R182). -/

namespace Sys2Proof.Machine

/-! ## REGISTER_WRITE (12, R179) -/

section

variable {s : State}

theorem exec_registerWrite_of_closed (h : s.port.place .write = none) (v : Byte) :
    exec (.registerWrite v) s = .next s :=
  congrArg Host.Outcome.next (State.furtherByte_of_closed h _)

theorem exec_registerWrite (h : s.Writes) (v : Byte) :
    exec (.registerWrite v) s = .next (s.hostWrite s.port.pointer v) :=
  congrArg Host.Outcome.next (State.furtherByte_of_answered h.2 h.1 _)

/-- A byte that moves nothing the lines follow: its effect, and the port after it. -/
theorem State.hostWrite_quiet {u : State} {a v : Byte} (hu : s.writeAt a v = u) (hl : u.lines = s.lines)
    (hk : u.keys = s.keys) (hg : u.groups = s.groups) (hm : u.scan.mode = s.scan.mode) :
    s.hostWrite a v = u.pointAfter a .write := by
  rw [State.hostWrite, hu, State.driveFrom_quiet (by simpa) (by simpa) (by simpa) (by simp [hm])]

theorem State.hostWrite_arg0 (v : Byte) : s.hostWrite 0x04 v = (s.writeArg0 v).pointAfter 0x04 .write :=
  State.hostWrite_quiet rfl rfl rfl rfl rfl

theorem State.hostWrite_arg1 (v : Byte) : s.hostWrite 0x05 v = (s.writeArg1 v).pointAfter 0x05 .write :=
  State.hostWrite_quiet rfl rfl rfl rfl rfl

end

/-! ## Addresses that ignore every write (12, R182, R184) -/

section

variable {page address : Byte}

/-- Below 0x20 the flag byte, the command registers, the filter, the ATTN mode and the page selector take bytes. -/
theorem State.writeCommon_of_ignores (s : State) (ha : address.toNat < 0x20)
    (h : ignoresEveryWrite page address = true) (v : Byte) : s.writeCommon address.toNat v = s.ignoreWrite := by
  simp only [ignoresEveryWrite, if_pos ha] at h
  simp_all [State.writeCommon]

theorem Globals.write_none (g : Globals) {off : Nat} (h : 19 ≤ off) (v : Byte) : g.write off v = none := by
  obtain ⟨n, rfl⟩ := Nat.exists_eq_add_of_le' h
  rfl

theorem ScanEntries.write_none (e : ScanEntries) {off : Nat} (h : 25 ≤ off) (v : Byte) : e.write off v = none := by
  rw [ScanEntries.write, if_neg (by omega), dif_neg (by omega)]

theorem GroupDef.write_none (d : GroupDef) {off : Nat} (h : 11 ≤ off) (v : Byte) : d.write off v = none := by
  rw [GroupDef.write, if_neg (by omega), if_neg (by omega), dif_neg (by omega), if_neg (by omega)]

/-- A staging page ignores the bytes between its fields and beyond them (12, R184). -/
theorem Configuration.write_of_ignores (cfg : Configuration) (ha : 0x20 ≤ address.toNat) (hp : page.toNat ≤ 3)
    (h : ignoresEveryWrite page address = true) (v : Byte) : cfg.write page.toNat address.toNat v = none := by
  have hpage : page = 0 ∨ page = 1 ∨ page = 2 ∨ page = 3 := by bv_omega
  rw [ignoresEveryWrite, if_neg (Nat.not_lt.2 ha)] at h
  obtain rfl | rfl | rfl | rfl := hpage
  case inl =>
    show (if 0x40 ≤ address.toNat then _ else _) = none
    obtain ⟨hglobals, hscan⟩ : 0x32 < address.toNat ∧ (address.toNat < 0x40 ∨ 0x58 < address.toNat) := by simpa using h
    split
    next hlow => rw [ScanEntries.write_none _ (by omega), Option.map_none]
    next => rw [Globals.write_none _ (by omega), Option.map_none]
  case inr.inl =>
    show (channelAt 0 address.toNat).bind _ = none
    rw [channelAt_none (of_decide_eq_true h), Option.bind_none]
  case inr.inr.inl =>
    show (channelAt 12 address.toNat).bind _ = none
    rw [channelAt_none (of_decide_eq_true h), Option.bind_none]
  case inr.inr.inr =>
    show ((groupAt address.toNat).bind fun g =>
      (cfg.groups[g].write (entryOffset address.toNat) v).map fun d => { cfg with groups := put cfg.groups g d }) = none
    obtain hend | hgap : 0x80 ≤ address.toNat ∨ 10 < entryOffset address.toNat := by simpa [entryOffset] using h
    · rw [groupAt_none hend, Option.bind_none]
    · simp [GroupDef.write_none _ hgap]

/-- Page 6 ignores a byte at a line's current level, between two lines and beyond the last one (12, R184). -/
theorem State.writeLinePage_of_ignores (s : State) (ha : 0x20 ≤ address.toNat)
    (h : ignoresEveryWrite 6 address = true) (v : Byte) : s.writeLinePage address.toNat v = s.ignoreWrite := by
  rw [ignoresEveryWrite, if_neg (Nat.not_lt.2 ha)] at h
  obtain hend | hgap : 0x60 ≤ address.toNat ∨ 5 < (address.toNat - 0x20) % 8 := by simpa using h
  · rw [State.writeLinePage, lineAt_none hend]
  · unfold State.writeLinePage
    split
    next => rfl
    next i _ =>
      obtain hoff | hoff : (address.toNat - 0x20) % 8 = 6 ∨ (address.toNat - 0x20) % 8 = 7 := by omega
      · rw [hoff]
        rfl
      · rw [hoff]
        rfl

/-- A byte at an address that ignores every write only sets WRITE_IGNORED. -/
theorem State.writeAt_of_ignores (s : State) (h : ignoresEveryWrite s.port.page address = true) (v : Byte) :
    s.writeAt address v = s.ignoreWrite := by
  unfold State.writeAt
  split
  next hlow => exact s.writeCommon_of_ignores hlow h v
  next hhigh =>
    have hpaged := Nat.not_lt.1 hhigh
    unfold State.writePaged
    split
    next hstaging => rw [State.writeStaging, Configuration.write_of_ignores _ hpaged hstaging h v]
    split
    next hline =>
      have hpage : s.port.page = 6 := BitVec.eq_of_toNat_eq hline
      exact s.writeLinePage_of_ignores hpaged (hpage ▸ h) v
    next => rfl

end

/-- Settles O25, by the address where the open write transaction stands. -/
theorem argumentsStoredAndOthersIgnored : Obligations.ArgumentsStoredAndOthersIgnored := by
  intro s v
  refine ⟨fun hclosed => exec_registerWrite_of_closed hclosed v, fun hwrites =>
    ⟨_, exec_registerWrite hwrites v, fun hpointer => ?arg0, fun hpointer => ?arg1, fun hignores => ?ignored⟩⟩
  case arg0 =>
    rw [hpointer, State.hostWrite_arg0]
    exact ⟨rfl, rfl, by simp [Keeps]⟩
  case arg1 =>
    rw [hpointer, State.hostWrite_arg1]
    exact ⟨rfl, rfl, by simp [Keeps]⟩
  case ignored =>
    rw [State.hostWrite_quiet (s.writeAt_of_ignores hignores v) rfl rfl rfl rfl]
    exact ⟨rfl, by simp [Keeps]⟩

end Sys2Proof.Machine
end

section
/-! SUPPORT. The trim search (9, R153 to R156): what a result decides, which measurement follows it, and what the
completion writes. -/

namespace Sys2Proof.Machine

/-! ## The decision on a result (9, R153 to R155) -/

theorem placeUnderTest_eq {pass : Nat} (h1 : 1 ≤ pass) (h7 : pass ≤ 7) :
    placeUnderTest pass = if pass = 7 then 0 else BitVec.ofNat 6 (2 ^ (6 - pass)) := by
  interval_cases pass <;> rfl

theorem keepsPlace_iff (hi : Nat) (r : MeasResult) :
    keepsPlace hi r = true ↔ (r.verdict = .valid ∧ r.mean ≤ hi) ∨ r.verdict = .shorted := by
  cases h : r.verdict <;> simp [keepsPlace, h]

theorem foundStatus_eq (lo hi : Nat) (trial : BitVec 6) (r : MeasResult) :
    foundStatus lo hi trial r =
      if r.verdict ≠ .valid then .failed
      else if r.mean < lo ∧ trial = 63 then .lowLimit
      else if lo ≤ r.mean ∧ hi < r.mean ∧ trial = 0 then .highLimit else .ok := by
  unfold foundStatus
  by_cases hv : r.verdict ≠ .valid
  · rw [if_pos hv, if_pos hv]
  rw [if_neg hv, if_neg hv]
  by_cases hlo : r.mean < lo
  · simp [hlo, Nat.not_le.2 hlo]
  · by_cases hhi : hi < r.mean <;> simp [hlo, hhi, Nat.not_lt.1 hlo]

theorem writesTrim_iff (status : TrimStatus) : writesTrim status = true ↔ status ≠ .failed ∧ status ≠ .none := by
  cases status <;> decide

section

variable (run : TrimRun) (r : MeasResult) (c : Channel)

/-- A search pass keeps the place under test in the trial value of the channel measured (9, R154). -/
theorem TrimRun.decideOn_trial :
    (run.decideOn r).trial[c] =
      if c = r.channel ∧ run.pass ≠ 7 ∧ keepsPlace run.hi r = true then run.trial[c] + placeUnderTest run.pass
      else run.trial[c] := by
  unfold TrimRun.decideOn
  split
  next h7 => simp [h7]
  split
  next h7 hkept =>
    by_cases hc : c = r.channel
    · subst hc
      simp [h7, hkept, TrimRun.named]
    · simp [hc]
  next hdropped => simp [hdropped]

/-- The verify pass sets the found status of the channel measured (9, R155). -/
theorem TrimRun.decideOn_found :
    (run.decideOn r).found[c] =
      if c = r.channel ∧ run.pass = 7 then foundStatus run.lo run.hi run.trial[c] r else run.found[c] := by
  unfold TrimRun.decideOn
  split
  next h7 =>
    by_cases hc : c = r.channel
    · subst hc
      simp [h7]
    · simp [hc]
  next h7 => split <;> simp [h7]

/-- The verify pass leaves the trial values as the search passes found them. -/
theorem TrimRun.decideOn_trial_of_verify (h7 : run.pass = 7) : (run.decideOn r).trial = run.trial := by
  rw [TrimRun.decideOn, if_pos h7]

end

/-! ## The next measurement (9, R153) -/

/-- The search at the next channel of its pass, or at the first of the next pass (9, R153). -/
def TrimRun.movedOn (run : TrimRun) : TrimRun :=
  { run with
    pass := if run.place + 1 < run.channels.length then run.pass else run.pass + 1
    place := if run.place + 1 < run.channels.length then run.place + 1 else 0 }

theorem TrimRun.advance_of_more {run : TrimRun} (h : run.place + 1 < run.channels.length ∨ run.pass < 7) :
    run.advance = some run.movedOn := by
  by_cases hin : run.place + 1 < run.channels.length
  · simp [TrimRun.advance, TrimRun.movedOn, hin]
  · simp [TrimRun.advance, TrimRun.movedOn, hin, h.resolve_left hin]

theorem TrimRun.advance_of_last {run : TrimRun} (h7 : run.pass = 7) (hlast : run.place + 1 = run.channels.length) :
    run.advance = none := by
  simp [TrimRun.advance, h7, hlast]

/-- The trim unit requests the channel at its place, at its trial value with the pass's place added (9, R153). -/
theorem State.requestTrim_of_channel (s : State) {run : TrimRun} {c : Channel} (h : run.channels[run.place]? = some c) :
    s.requestTrim run = (s.withTrimRun (some run)).request .trim c (run.named c) := by
  obtain ⟨hlt, rfl⟩ := List.getElem?_eq_some_iff.1 h
  exact s.requestTrim_eq hlt

section

variable {s : State} {run : TrimRun} (hrun : s.trimRun = some run) (r : MeasResult)
include hrun

theorem State.receiveTrim_of_more (h : run.place + 1 < run.channels.length ∨ run.pass < 7) :
    s.receiveTrim r = s.requestTrim (run.decideOn r).movedOn := by
  have hadvance : (run.decideOn r).advance = some (run.decideOn r).movedOn := TrimRun.advance_of_more (by simpa using h)
  simp only [State.receiveTrim, hrun, hadvance]

theorem State.receiveTrim_of_last (h7 : run.pass = 7) (hlast : run.place + 1 = run.channels.length) :
    s.receiveTrim r = s.completeTrim (run.decideOn r) := by
  have hadvance : (run.decideOn r).advance = none := TrimRun.advance_of_last (by simpa using h7) (by simpa using hlast)
  simp only [State.receiveTrim, hrun, hadvance]

end

/-! ## The completion (9, R156) -/

theorem TrimRun.writeInto_channels (run : TrimRun) (cfg : Configuration) (c : Channel) :
    (run.writeInto cfg).channels[c] =
      if run.channels.contains c = true ∧ run.found[c] ≠ .failed ∧ run.found[c] ≠ .none then
        { cfg.channels[c] with trim := run.trial[c] }
      else cfg.channels[c] := by
  simp [TrimRun.writeInto, writesTrim_iff]

theorem trimEndKey_key (c : Channel) (k : KeyRecord) :
    (trimEndKey c k).1 = if k.state = .fault then k else k.atCal := by
  unfold trimEndKey
  split
  · rfl
  · rw [moveKey_cal]

/-- A key whose near flag is clear has no record at a trim completion (3, R39). -/
theorem trimEndKey_records {c : Channel} {k : KeyRecord} (h : k.near = false) : (trimEndKey c k).2 = [] := by
  unfold trimEndKey
  split
  · rfl
  · simp [moveKey_cal, h]

section

variable (s : State) (run : TrimRun)

theorem State.completeTrim_store :
    (s.completeTrim run).store =
      { s.store with staging := run.writeInto s.store.staging, live := run.writeInto s.live } := by
  simp [State.completeTrim, State.live]

theorem State.completeTrim_scan : (s.completeTrim run).scan = { s.scan with mode := .stopped } := by
  simp [State.completeTrim]

theorem State.completeTrim_trimRun : (s.completeTrim run).trimRun = none := by
  simp [State.completeTrim]

theorem State.completeTrim_command :
    (s.completeTrim run).command =
      { s.command.reporting 0x05 .ok (BitVec.ofNat 8 run.missed) with inProgress := none } := by
  simp [State.completeTrim, CommandName.code, CommandUnit.reporting]

theorem TrimRun.mark_near (c : Channel) (k : KeyRecord) : (run.mark c k).near = k.near := by
  unfold TrimRun.mark
  split <;> rfl

variable {s}

/-- With every near flag clear the completion offers MODE and CMD_DONE alone (9, R156). -/
theorem State.completeTrim_queue (hnear : ∀ c : Channel, s.keys[c].near = false) :
    (s.completeTrim run).queue =
      s.queue.offerAll [⟨.mode, 0, 0x05, 0xFF⟩, ⟨.cmdDone, 0x05, 0x02, BitVec.ofNat 8 run.missed⟩] := by
  have hforced : (s.live.scanList.flatMap fun c => (trimEndKey c (run.mark c s.keys[c])).2) = [] :=
    List.flatMap_eq_nil_iff.2 fun c _ => trimEndKey_records ((run.mark_near c _).trans (hnear c))
  have hqueue : (s.completeTrim run).queue =
      (s.queue.offerAll (s.live.scanList.flatMap fun c => (trimEndKey c (run.mark c s.keys[c])).2)).offerAll
        [⟨.mode, 0, 0x05, 0xFF⟩, ⟨.cmdDone, 0x05, 0x02, BitVec.ofNat 8 run.missed⟩] := by
    simp [State.completeTrim, TrimRun.mark, State.live, modeRecord, cmdDoneRecord, Mode.code, ModeCause.code,
      ResultCode.code, CommandName.code]
  rw [hqueue, hforced, EventQueue.offerAll_nil]

/-- The keys after a search of the live list: the listed ones with their found statuses, in CAL but for FAULT. -/
theorem State.completeTrim_keys_of_list (hlist : run.channels = s.live.scanList) (c : Channel) :
    (s.completeTrim run).keys[c] =
      if s.live.listed c = true then
        (if s.keys[c].state = .fault then { s.keys[c] with trimStatus := run.found[c] }
        else { s.keys[c].atCal with trimStatus := run.found[c] })
      else s.keys[c] := by
  rw [State.completeTrim_keys, trimEndKey_key, TrimRun.mark, hlist, Configuration.listed]
  split <;> rfl

end

/-- Settles O40, by the decision and then by whether a measurement is left. -/
theorem trimSearchesAndCompletes : Obligations.TrimSearchesAndCompletes := by
  intro s run r hrun h1 h7 place kept trial status inPass pass position t
  have htrial (c : Channel) : (run.decideOn r).trial[c] = trial c := by
    simp only [TrimRun.decideOn_trial, keepsPlace_iff, placeUnderTest_eq h1 h7]
    rfl
  have hstatus (c : Channel) : (run.decideOn r).found[c] = status c := by
    simp only [TrimRun.decideOn_found, foundStatus_eq]
    rfl
  refine ⟨fun next hmore hnext => ?next, fun hlastPass hlast hlist hnear => ?complete⟩
  case next =>
    have hpass : (run.decideOn r).movedOn.pass = pass := by simp [TrimRun.movedOn, pass, inPass]
    have hplace : (run.decideOn r).movedOn.place = position := by simp [TrimRun.movedOn, position, inPass]
    have ht : t = (s.withTrimRun (some (run.decideOn r).movedOn)).request .trim next
        ((run.decideOn r).movedOn.named next) := by
      rw [← State.requestTrim_of_channel]
      · exact State.receiveTrim_of_more hrun r (by omega)
      · rw [hplace]
        simpa [TrimRun.movedOn] using hnext
    have hbounds : 1 ≤ pass ∧ pass ≤ 7 := by
      simp only [pass]
      split <;> omega
    have hnamed : (run.decideOn r).movedOn.named next = trial next + place pass := by
      rw [TrimRun.named, hpass, placeUnderTest_eq hbounds.1 hbounds.2]
      exact congrArg (· + _) (htrial next)
    rw [ht, hnamed]
    refine ⟨by simp [Keeps], rfl, (run.decideOn r).movedOn, rfl, ?_, ?_, ?_, hpass, hplace,
      fun c => ⟨htrial c, hstatus c⟩⟩
    all_goals simp [TrimRun.movedOn]
  case complete =>
    intro written detail
    have ht : t = s.completeTrim (run.decideOn r) := State.receiveTrim_of_last hrun r hlastPass hlast
    have hchannels : (run.decideOn r).channels = s.live.scanList := by simpa using hlist
    have hwritten (cfg : Configuration) (c : Channel) : ((run.decideOn r).writeInto cfg).channels[c] =
        if written c then { cfg.channels[c] with trim := run.trial[c] } else cfg.channels[c] := by
      simp only [TrimRun.writeInto_channels, hchannels, hstatus, run.decideOn_trial_of_verify r hlastPass]
      rfl
    have hdetail : BitVec.ofNat 8 (run.decideOn r).missed = detail := by
      simp only [TrimRun.missed, hchannels, hstatus]
      rfl
    have hkeys := s.completeTrim_keys_of_list (run.decideOn r) hchannels
    simp only [hstatus] at hkeys
    have hstore := s.completeTrim_store (run.decideOn r)
    have hlive := s.completeTrim_live (run.decideOn r)
    have hqueue := State.completeTrim_queue (run.decideOn r) hnear
    have hcommand := s.completeTrim_command (run.decideOn r)
    rw [hdetail] at hqueue hcommand
    rw [ht]
    refine ⟨fun c => ?live, fun c => ?staging, ?store, hkeys, s.completeTrim_trimRun _, s.completeTrim_scan _, hqueue,
      hcommand, ?frame⟩
    case live => rw [hlive, hwritten]
    case staging => rw [hstore, hwritten]
    case store =>
      rw [hlive, hstore]
      rfl
    case frame => simp [Keeps]

end Sys2Proof.Machine
end

section
/-! SUPPORT. Every event keeps the live copy and a pending snapshot valid (8, R136, R139): validation does not read the
trim, and whatever else reaches the live copy has passed validation. -/

namespace Sys2Proof.Machine

theorem Configuration.valid_iff_checks {cfg : Configuration} :
    cfg.valid = true ↔ ∀ v ∈ validationChecks, v.2 cfg = none := by
  simp [Configuration.valid, validationFailure]

/-! ## The trim completion (9, R156) -/

section

variable (run : TrimRun) (cfg : Configuration)

/-- Of a channel the trim completion writes the trim alone. -/
theorem TrimRun.writeInto_channel (c : Channel) :
    ∃ trim, (run.writeInto cfg).channels[c] = { cfg.channels[c] with trim := trim } := by
  simp only [TrimRun.writeInto, Fin.getElem_fin, getElem_tab]
  split
  · exact ⟨_, rfl⟩
  · exact ⟨_, rfl⟩

/-- A check of the channels that does not read the trim answers the same of a copy with trims written. -/
theorem TrimRun.firstChannel_writeInto (passes : Channel → ChannelConfig → Bool)
    (h : ∀ c ch trim, passes c { ch with trim := trim } = passes c ch) :
    firstChannel (fun c => passes c (run.writeInto cfg).channels[c]) =
      firstChannel fun c => passes c cfg.channels[c] := by
  congr 1
  funext c
  obtain ⟨trim, htrim⟩ := run.writeInto_channel cfg c
  rw [htrim, h]

/-- None of the fourteen checks reads the trim (8, R137): V4 to V10 read other fields of a channel, the rest none. -/
theorem TrimRun.writeInto_checks : ∀ v ∈ validationChecks, v.2 (run.writeInto cfg) = v.2 cfg := by
  have channels := run.firstChannel_writeInto cfg
  simp only [validationChecks, List.forall_mem_cons]
  refine ⟨rfl, rfl, rfl, ?v4, ?v5, ?v6, ?v7, ?v8, ?v9, ?v10, rfl, rfl, rfl, rfl, List.forall_mem_nil _⟩
  case v4 => exact channels (fun c ch => !cfg.listed c || within 1 (2 ^ 20 - 1) ch.electrodes.toNat) fun _ _ _ => rfl
  case v5 => exact channels (fun _ ch => within 0 3 ch.burst.toNat) fun _ _ _ => rfl
  case v6 =>
    exact channels (fun _ ch => within 64 4095 ch.ceiling.toNat && decide (ch.floor.toNat < ch.ceiling.toNat))
      fun _ _ _ => rfl
  case v7 => exact channels (fun _ ch => within 1 255 ch.touch.toNat) fun _ _ _ => rfl
  case v8 => exact channels (fun _ ch => within 1 ch.touch.toNat ch.release.toNat) fun _ _ _ => rfl
  case v9 => exact channels (fun _ ch => ch.prox == 0 || decide (ch.prox.toNat < ch.touch.toNat)) fun _ _ _ => rfl
  case v10 =>
    exact channels (fun _ ch => within 1 8 ch.downDebounce.toNat && within 1 8 ch.upDebounce.toNat) fun _ _ _ => rfl

theorem TrimRun.writeInto_valid : (run.writeInto cfg).valid = cfg.valid := by
  rw [Bool.eq_iff_iff, Configuration.valid_iff_checks, Configuration.valid_iff_checks]
  exact forall₂_congr fun v hv => by rw [run.writeInto_checks cfg v hv]

end

section

variable {s t : State}

theorem ConfigStore.Valid.completeTrim (h : s.store.Valid) (run : TrimRun) : (s.completeTrim run).store.Valid := by
  obtain ⟨hlive, hsnapshot⟩ := h
  rw [State.completeTrim_store]
  exact ⟨(run.writeInto_valid s.live).trans hlive, hsnapshot⟩

theorem ConfigStore.Valid.receiveTrim (h : s.store.Valid) (x : MeasResult) : (s.receiveTrim x).store.Valid := by
  unfold State.receiveTrim
  (repeat' split)
  · exact h
  · simpa using h
  · exact h.completeTrim _

/-! ## Rounds (2, R22, R26; 8, R141) -/

theorem State.install_valid {new : Configuration} (h : new.valid = true) : (s.install new).store.Valid := by
  rw [State.install_store]
  exact ⟨h, by simp⟩

theorem ConfigStore.Valid.installPending (h : s.store.Valid) : s.installPending.store.Valid := by
  unfold State.installPending
  split
  next new hnew => exact State.install_valid (h.2 new hnew)
  · exact h

theorem ConfigStore.Valid.startRound (h : s.store.Valid) : s.startRound.store.Valid := by
  unfold State.startRound
  simpa using h.installPending

theorem ConfigStore.Valid.completeRound (h : s.store.Valid) (kind : RoundKind) (rs : List MeasResult) :
    (s.completeRound kind rs).store.Valid := by
  have hfinish : (s.finishRound kind rs).store.Valid := by simpa using h
  rw [State.completeRound_eq rfl]
  split
  · exact hfinish.startRound
  · exact hfinish

theorem ConfigStore.Valid.receiveScan (h : s.store.Valid) (x : MeasResult) : (s.receiveScan x).store.Valid := by
  unfold State.receiveScan
  split
  · exact h
  dsimp only
  split
  · simpa using h
  · exact h.completeRound _ _

theorem ConfigStore.Valid.endConversion (h : s.store.Valid) (cycles : Nat) : (s.endConversion cycles).store.Valid := by
  cases hm : s.engine.current with
  | none => simpa [State.endConversion, hm] using h
  | some m =>
    rw [State.endConversion_eq hm]
    unfold State.endBurst
    (repeat' split)
    · exact h
    · exact h
    cases m.requester with
    | scan => exact ConfigStore.Valid.receiveScan (s := s.abandonMeasurement) h _
    | trim => exact ConfigStore.Valid.receiveTrim (s := s.abandonMeasurement) h _

theorem ConfigStore.Valid.expireRoundTimer (h : s.store.Valid) : s.expireRoundTimer.store.Valid := by
  unfold State.expireRoundTimer
  (repeat' split)
  · exact h
  · exact h.startRound
  · exact h

/-! ## Commands -/

theorem ConfigStore.Valid.leaveDoze (h : s.store.Valid) : s.leaveDoze.store.Valid := by
  unfold State.leaveDoze
  split
  · exact ConfigStore.Valid.startRound (s := s.stopTimer) h
  · exact h

theorem ConfigStore.Valid.takeStart (h : s.store.Valid) : s.takeStart.store.Valid := by
  unfold State.takeStart
  (repeat' split)
  · simpa using h
  · simpa using h
  · exact ConfigStore.Valid.startRound (by simpa using h)

/-- COMMIT validates staging before it takes the snapshot, or installs it at once in STOPPED (8, R139, R142). -/
theorem ConfigStore.Valid.takeCommit (h : s.store.Valid) : s.takeCommit.store.Valid := by
  unfold State.takeCommit
  (repeat' split)
  · simpa using h
  · simpa using h
  next hnone _ => exact State.install_valid (by simp [Configuration.valid, hnone])
  next hnone _ =>
    have hstaging : s.store.staging.valid = true := by simp [Configuration.valid, hnone]
    have hstore : (s.withStore { s.store with snapshot := some s.store.staging }).store.Valid :=
      ⟨h.1, fun _ hcfg => Option.some.inj hcfg ▸ hstaging⟩
    simpa using hstore

theorem ConfigStore.Valid.recalKeys (h : s.store.Valid) (targets : List Channel) :
    (s.recalKeys targets).store.Valid := by
  unfold State.recalKeys
  split
  · simpa using h
  · simpa using h
  · simpa using h
  · exact ConfigStore.Valid.leaveDoze (by simpa using h)

/-- The snapshot of an aborted COMMIT is discarded (8, R148). -/
theorem ConfigStore.Valid.takeAbort (h : s.store.Valid) : s.takeAbort.store.Valid := by
  unfold State.takeAbort
  split
  · simpa using h
  · have hstore : (s.withStore { s.store with snapshot := none }).store.Valid := ⟨h.1, by simp⟩
    simpa using hstore
  · simpa using h
  · simpa [State.cancelTrim] using h

theorem ConfigStore.Valid.takeCommand (h : s.store.Valid) (n : CommandName) : (s.takeCommand n).store.Valid := by
  cases n with
  | start => exact h.takeStart
  | commit => exact h.takeCommit
  | abort => exact h.takeAbort
  | recal =>
    simp only [State.takeCommand, State.takeRecal]
    split
    · simpa using h
    · simpa using h
    · exact h.recalKeys _
  | wake =>
    simp only [State.takeCommand, State.takeWake]
    split
    · simpa using h
    · exact ConfigStore.Valid.leaveDoze (by simpa using h)
  | stop =>
    simp only [State.takeCommand, State.takeStop]
    split
    · simpa using h
    · simpa using h
  | trim =>
    simp only [State.takeCommand, State.takeTrim]
    (repeat' split)
    · simpa using h
    · simpa using h
    · simpa using h
  | doze =>
    simp only [State.takeCommand, State.takeDoze]
    split
    · simpa using h
    · simpa using h
  | flush => exact h.of_workings s.takeFlush_workings
  | reset => exact h.of_workings s.takeReset_workings

/-! ## Events -/

/-- The warm reset keeps the live copy and discards the snapshot (7, R132). -/
theorem ConfigStore.Valid.warmReset (h : s.store.Valid) : s.warmReset.store.Valid := by
  have hstore : s.warmReset.store = { s.store with snapshot := none } := rfl
  rw [hstore]
  exact ⟨h.1, by simp⟩

theorem State.reset_valid : State.reset.store.Valid :=
  ⟨default_valid, fun _ h => nomatch h⟩

theorem ConfigStore.Valid.workingsStep {i : Instr} (h : s.store.Valid) (hst : WorkingsStep i s t) : t.store.Valid := by
  cases hst with
  | unchanged ht => exact h.of_workings ht
  | command u n hu _ _ ht => exact ((h.of_workings hu).takeCommand n).of_workings ht
  | conversion u cycles hu _ ht => exact ((h.of_workings hu).endConversion cycles).of_workings ht
  | roundTimer u hu _ ht => exact (h.of_workings hu).expireRoundTimer.of_workings ht
  | warmReset u hu _ ht => exact (h.of_workings hu).warmReset.of_workings ht
  | powerOn _ ht => exact State.reset_valid.of_workings ht

end

/-- Settles O54: COMMIT, the install and the trim completion are the ways the live copy and the snapshot change, but for
a reset. -/
theorem liveCopyStaysValid : Obligations.LiveCopyStaysValid := by
  intro s t h hstep
  obtain rfl | ⟨i, hst⟩ := step_workings hstep
  · exact h
  · exact h.workingsStep hst

end Sys2Proof.Machine
end

section
/-! SUPPORT. The fourteen checks of validation (8, R137): each names its first failing item, and validation the first
failing check (8, R140). -/

namespace Sys2Proof.Machine

/-! ## The first failing item of a check -/

/-- What a check answers is the first item that is bad, and nothing where none is. -/
def FirstItem (bad : Nat → Prop) (found : Option Nat) : Prop := ∀ i, found = some i ↔ bad i ∧ ∀ j < i, ¬ bad j

theorem FirstItem.eq_none_iff {bad : Nat → Prop} {found : Option Nat} (h : FirstItem bad found) :
    found = none ↔ ∀ i, ¬ bad i := by
  classical
  constructor
  · intro hnone i hbad
    have hfirst := (h (Nat.find ⟨i, hbad⟩)).2 ⟨Nat.find_spec ⟨i, hbad⟩, fun _ => Nat.find_min ⟨i, hbad⟩⟩
    rw [hnone] at hfirst
    cases hfirst
  · intro hgood
    rw [Option.eq_none_iff_forall_ne_some]
    exact fun i hi => hgood i ((h i).1 hi).1

theorem FirstItem.congr {bad bad' : Nat → Prop} {found : Option Nat} (h : FirstItem bad found)
    (hbad : ∀ i, bad i ↔ bad' i) : FirstItem bad' found := by
  rwa [show bad' = bad from funext fun i => propext (hbad i).symm]

theorem firstFailing_first (n : Nat) {passes : Nat → Bool} {bad : Nat → Prop}
    (h : ∀ i, i < n → (passes i = false ↔ bad i)) : FirstItem (fun i => i < n ∧ bad i) (firstFailing n passes) := by
  have hrange : FirstItem (fun i => i < n ∧ passes i = false) (firstFailing n passes) := by
    intro i
    rw [firstFailing, List.find?_range_eq_some]
    simp only [Bool.not_eq_true', Bool.not_not, List.mem_range]
    constructor
    · rintro ⟨hi, hn, hbefore⟩
      exact ⟨⟨hn, hi⟩, fun j hj hbad => by simp [hbefore j hj] at hbad⟩
    · rintro ⟨⟨hn, hi⟩, hbefore⟩
      exact ⟨hi, hn, fun j hj => Bool.eq_true_of_not_eq_false fun hbad => hbefore j hj ⟨hj.trans hn, hbad⟩⟩
  exact hrange.congr fun i => and_congr_right (h i)

/-- The first place of a table at which a check fails. -/
theorem find_finRange_first {n : Nat} {passes : Fin n → Bool} {bad : Fin n → Prop} (h : ∀ c, passes c = false ↔ bad c) :
    FirstItem (fun i => ∃ c : Fin n, c.val = i ∧ bad c)
      (((List.finRange n).find? fun c => !passes c).map Fin.val) := by
  intro i
  simp only [Option.map_eq_some_iff, List.find?_eq_some_iff_getElem, Bool.not_eq_true', Bool.not_not,
    List.getElem_finRange, List.length_finRange, ← h]
  constructor
  · rintro ⟨c, ⟨hc, k, hk, rfl, hbefore⟩, rfl⟩
    refine ⟨⟨_, rfl, hc⟩, fun j hj => ?_⟩
    rintro ⟨d, rfl, hd⟩
    rw [show passes d = true from hbefore d hj] at hd
    cases hd
  · rintro ⟨⟨c, rfl, hc⟩, hbefore⟩
    refine ⟨c, ⟨hc, c.val, c.isLt, rfl, fun j hj => ?_⟩, rfl⟩
    exact Bool.eq_true_of_not_eq_false fun hbad => hbefore j hj ⟨_, rfl, hbad⟩

theorem firstChannel_first {passes : Channel → Bool} {bad : Channel → Prop} (h : ∀ c, passes c = false ↔ bad c) :
    FirstItem (fun i => ∃ c : Channel, c.val = i ∧ bad c) (firstChannel passes) :=
  find_finRange_first h

theorem firstGroup_first {passes : GroupId → Bool} {bad : GroupId → Prop} (h : ∀ g, passes g = false ↔ bad g) :
    FirstItem (fun i => ∃ g : GroupId, g.val = i ∧ bad g) (firstGroup passes) :=
  find_finRange_first h

/-! ## The first failing check (8, R140) -/

/-- The detail is the first value of the first failing check's range, plus the index of its first failing item. -/
def NamesFirst (checks : List (Nat × (Nat → Prop))) (detail : Nat) : Prop :=
  ∃ (k : Nat) (v : Nat × (Nat → Prop)) (i : Nat), checks[k]? = some v ∧ detail = v.1 + i ∧ v.2 i ∧
    (∀ j, j < i → ¬ v.2 j) ∧ ∀ l, l < k → ∀ u : Nat × (Nat → Prop), checks[l]? = some u → ∀ j, ¬ u.2 j

theorem not_namesFirst_nil (detail : Nat) : ¬ NamesFirst [] detail := by
  rintro ⟨k, v, i, hv, -⟩
  cases hv

theorem namesFirst_cons {v : Nat × (Nat → Prop)} {rest : List (Nat × (Nat → Prop))} {detail : Nat} :
    NamesFirst (v :: rest) detail ↔
      (∃ i, detail = v.1 + i ∧ v.2 i ∧ ∀ j, j < i → ¬ v.2 j) ∨ (∀ j, ¬ v.2 j) ∧ NamesFirst rest detail := by
  constructor
  · rintro ⟨k, w, i, hw, hdetail, hbad, hfirst, hbefore⟩
    cases k with
    | zero =>
      obtain rfl := Option.some.inj hw
      exact .inl ⟨i, hdetail, hbad, hfirst⟩
    | succ k =>
      exact .inr ⟨hbefore 0 k.succ_pos v rfl, k, w, i, hw, hdetail, hbad, hfirst,
        fun l hl => hbefore (l + 1) (Nat.succ_lt_succ hl)⟩
  · rintro (⟨i, hdetail, hbad, hfirst⟩ | ⟨hgood, k, w, i, hw, hdetail, hbad, hfirst, hbefore⟩)
    · exact ⟨0, v, i, rfl, hdetail, hbad, hfirst, fun l hl => absurd hl l.not_lt_zero⟩
    · refine ⟨k + 1, w, i, hw, hdetail, hbad, hfirst, fun l hl u hu => ?_⟩
      cases l with
      | zero => exact Option.some.inj hu ▸ hgood
      | succ l => exact hbefore l (Nat.lt_of_succ_lt_succ hl) u hu

/-- A check of the model names the first failing item of a check of the manual, in the same range of details. -/
def Matches (cfg : Configuration) (check : Nat × (Configuration → Option Nat)) (v : Nat × (Nat → Prop)) : Prop :=
  check.1 = v.1 ∧ FirstItem v.2 (check.2 cfg)

section

variable {cfg : Configuration} {model : List (Nat × (Configuration → Option Nat))} {checks : List (Nat × (Nat → Prop))}
  (h : List.Forall₂ (Matches cfg) model checks)

include h

theorem namesFirst_of_matches (detail : Nat) :
    model.findSome? (fun v => (v.2 cfg).map (v.1 + ·)) = some detail ↔ NamesFirst checks detail := by
  induction h with
  | nil => exact iff_of_false (by simp) (not_namesFirst_nil detail)
  | @cons check v model checks hv hrest ih =>
    obtain ⟨hrange, hitem⟩ := hv
    rw [namesFirst_cons, List.findSome?_cons, ← ih]
    cases hfound : check.2 cfg with
    | none =>
      have hgood := hitem.eq_none_iff.1 hfound
      simp [hgood]
    | some i =>
      obtain ⟨hbad, hfirst⟩ := (hitem i).1 hfound
      have honly (j : Nat) : (v.2 j ∧ ∀ l, l < j → ¬ v.2 l) ↔ i = j := by rw [← hitem j, hfound, Option.some.injEq]
      have hsome : ¬ ∀ j, ¬ v.2 j := fun hgood => hgood i hbad
      simp [honly, hsome, hrange, eq_comm]

theorem forall_none_of_matches : (∀ v ∈ model, v.2 cfg = none) ↔ ∀ v ∈ checks, ∀ i, ¬ v.2 i := by
  induction h with
  | nil => simp
  | cons hv hrest ih => rw [List.forall_mem_cons, List.forall_mem_cons, hv.2.eq_none_iff, ih]

end

/-! ## The checks, one by one (8, R137) -/

theorem within_eq_false {lo hi v : Nat} : within lo hi v = false ↔ v < lo ∨ hi < v := by
  simp only [within, Bool.and_eq_false_iff, decide_eq_false_iff_not, Nat.not_le]

/-- From 1 to 255: a byte that is not 0. -/
theorem within_byte_eq_false {b : Byte} : within 1 255 b.toNat = false ↔ b = 0 := by
  rw [within_eq_false]
  bv_omega

section

variable (cfg : Configuration)

theorem checkV1_first : FirstItem (fun i => i = 0 ∧ 24 < cfg.entryCount) (checkV1 cfg) := by
  intro i
  unfold checkV1
  split
  next hcount => exact iff_of_false (by simp) (by omega)
  next hcount =>
    constructor
    · rintro ⟨⟩
      exact ⟨⟨rfl, Nat.lt_of_not_le hcount⟩, fun j hj => absurd hj j.not_lt_zero⟩
    · rintro ⟨⟨rfl, -⟩, -⟩
      rfl

theorem checkV2_first : FirstItem (fun i => i < cfg.entryCount ∧ 24 ≤ cfg.entryAt i) (checkV2 cfg) :=
  firstFailing_first _ fun i _ => by simp

theorem checkV3_first :
    FirstItem (fun i => i < cfg.entryCount ∧ ∃ j, j < i ∧ cfg.entryAt j = cfg.entryAt i) (checkV3 cfg) :=
  firstFailing_first _ fun i _ => by simp

/-- A passing item is one that is not bad. -/
def FailsWhen (passes : Bool) (bad : Prop) : Prop := passes = false ↔ bad

/-- The items of V11 as the manual states them, each failing where the model's does (8, R137). -/
theorem globalItems_failing (g : Globals) :
    List.Forall₂ FailsWhen (globalItems g)
      [g.calSamples ≠ 4 ∧ g.calSamples ≠ 8 ∧ g.calSamples ≠ 16, g.calSpread.toNat < 1 ∨ 1023 < g.calSpread.toNat,
        g.driftInterval = 0, g.driftStep.toNat < 1 ∨ 15 < g.driftStep.toNat, g.negLimit = 0, g.negRounds = 0,
        g.noiseLimit.toNat < 1 ∨ 1023 < g.noiseLimit.toNat, g.hopSet = 0, 3 < g.hopRetries.toNat,
        g.faultRounds.toNat < 1 ∨ 15 < g.faultRounds.toNat, g.roundPeriod.toNat < 5,
        g.dozePeriod.toNat < 2 ∨ 200 < g.dozePeriod.toNat,
        (g.targetLo.toNat < 64 ∨ 4094 < g.targetLo.toNat) ∨ (g.targetHi.toNat < 64 ∨ 4094 < g.targetHi.toNat) ∨
          g.targetHi.toNat ≤ g.targetLo.toNat] := by
  have hperiod : within 5 255 g.roundPeriod.toNat = false ↔ g.roundPeriod.toNat < 5 := by
    rw [within_eq_false]
    omega
  have hretries : within 0 3 g.hopRetries.toNat = false ↔ 3 < g.hopRetries.toNat := by simp [within_eq_false]
  have htargets : (within 64 4094 g.targetLo.toNat && within 64 4094 g.targetHi.toNat &&
      decide (g.targetLo.toNat < g.targetHi.toNat)) = false ↔ (g.targetLo.toNat < 64 ∨ 4094 < g.targetLo.toNat) ∨
        (g.targetHi.toNat < 64 ∨ 4094 < g.targetHi.toNat) ∨ g.targetHi.toNat ≤ g.targetLo.toNat := by
    simp only [Bool.and_eq_false_iff, within_eq_false, decide_eq_false_iff_not, Nat.not_lt, or_assoc]
  exact .cons (by simp [FailsWhen, and_assoc]) <| .cons within_eq_false <| .cons within_byte_eq_false <|
    .cons within_eq_false <| .cons within_byte_eq_false <| .cons within_byte_eq_false <| .cons within_eq_false <|
    .cons (by simp [FailsWhen]) <| .cons hretries <| .cons within_eq_false <| .cons hperiod <| .cons within_eq_false <|
    .cons htargets .nil

theorem getD_eq_false_iff_of_failsWhen {items : List Bool} {bad : List Prop} (h : List.Forall₂ FailsWhen items bad)
    (i : Nat) : i < items.length ∧ items.getD i true = false ↔ ∃ p, bad[i]? = some p ∧ p := by
  induction h generalizing i with
  | nil => simp
  | cons hp hrest ih =>
    cases i with
    | zero => simpa only [List.length_cons, Nat.zero_lt_succ, true_and, List.getD_cons_zero, List.getElem?_cons_zero,
        Option.some.injEq, exists_eq_left', FailsWhen] using hp
    | succ i => simpa using ih i

/-- The stored member entry at a place of the list. -/
def GroupDef.memberEntry (d : GroupDef) (i : Nat) : Nat := (d.members.toList.getD i 0).toNat

/-- An entry within the count is no channel, or stands there a second time. -/
theorem membersDistinct_eq_false {d : GroupDef} :
    membersDistinct d = false ↔
      ∃ i, i < d.count.toNat ∧ (24 ≤ d.memberEntry i ∨ ∃ j, j < i ∧ d.memberEntry j = d.memberEntry i) := by
  simp only [membersDistinct, List.all_eq_false, List.mem_range]
  refine exists_congr fun i => and_congr_right fun _ => ?_
  rw [Bool.and_eq_true, not_and_or]
  simp [GroupDef.memberEntry, BitVec.toNat_inj]

/-- A group definition is malformed as V12 says (8, R137). -/
theorem groupWellFormed_eq_false {d : GroupDef} :
    groupWellFormed d = false ↔ 3 < d.kind.toNat ∨
      (d.kind ≠ 0 ∧ ((d.count.toNat < (if d.kind = 3 then 3 else 2) ∨ 8 < d.count.toNat) ∨
        (∃ i, i < d.count.toNat ∧ (24 ≤ d.memberEntry i ∨ ∃ j, j < i ∧ d.memberEntry j = d.memberEntry i)) ∨
        (d.kind ≠ 1 ∧ (d.moveThreshold.toNat < 1 ∨ 64 < d.moveThreshold.toNat)))) := by
  rw [← membersDistinct_eq_false]
  have hkind : d.kind = 0 ∨ d.kind = 1 ∨ d.kind = 2 ∨ d.kind = 3 ∨
      3 < d.kind.toNat ∧ d.kind ≠ 0 ∧ d.kind ≠ 1 ∧ d.kind ≠ 2 ∧ d.kind ≠ 3 := by bv_omega
  obtain h | h | h | h | ⟨hlarge, h0, h1, h2, h3⟩ := hkind
  case inl => simp [groupWellFormed, groupKindOf, h]
  case inr.inr.inr.inr =>
    rw [groupWellFormed, groupKindOf, if_neg h0, if_neg h1, if_neg h2, if_neg h3]
    exact iff_of_true rfl (.inl hlarge)
  -- EXCLUSIVE, SLIDER and WHEEL are conjunctions of the same tests.
  all_goals
    rw [groupWellFormed, groupKindOf, h]
    simp [Bool.and_eq_false_iff, -Bool.and_eq_false_imp, within_eq_false, or_assoc]

theorem mem_countedMembers {g : GroupId} {c : Channel} :
    c ∈ cfg.countedMembers g ↔ cfg.groups[g].groupKind ≠ .none ∧ c ∈ cfg.groups[g].memberList := by
  unfold Configuration.countedMembers
  split
  next hnone => exact iff_of_false List.not_mem_nil fun h => h.1 hnone
  next hkind => exact (and_iff_right hkind).symm

end

/-- Settles O51, check by check. -/
theorem validationNamesFirstFailure : Obligations.ValidationNamesFirstFailure := by
  intro cfg entry onChannel onGroup outside ch gl items member malformed holds checks
  have houtside {lo hi v : Nat} : within lo hi v = false ↔ outside lo hi v := within_eq_false
  have hmatches : List.Forall₂ (Matches cfg) validationChecks checks := by
    refine .cons ⟨rfl, checkV1_first cfg⟩ <| .cons ⟨rfl, checkV2_first cfg⟩ <| .cons ⟨rfl, checkV3_first cfg⟩ <|
      .cons ⟨rfl, firstChannel_first fun c => ?electrodes⟩ <| .cons ⟨rfl, firstChannel_first fun c => ?burst⟩ <|
      .cons ⟨rfl, firstChannel_first fun c => ?range⟩ <|
      .cons ⟨rfl, firstChannel_first fun c => within_byte_eq_false⟩ <|
      .cons ⟨rfl, firstChannel_first fun c => houtside⟩ <| .cons ⟨rfl, firstChannel_first fun c => ?prox⟩ <|
      .cons ⟨rfl, firstChannel_first fun c => ?debounce⟩ <| .cons ⟨rfl, ?globals⟩ <|
      .cons ⟨rfl, firstGroup_first fun g => ?malformed⟩ <| .cons ⟨rfl, firstGroup_first fun g => ?shared⟩ <|
      .cons ⟨rfl, firstGroup_first fun g => ?unlisted⟩ .nil
    case electrodes => simp [houtside, ch]
    case burst => simp [within_eq_false, ch]
    case range => simp only [Bool.and_eq_false_iff, houtside, decide_eq_false_iff_not, Nat.not_lt, ch]
    case prox => simp [ch]
    case debounce => simp only [Bool.and_eq_false_iff, houtside, ch]
    case globals =>
      have hitems := globalItems_failing gl
      exact (firstFailing_first 13 fun i _ => Iff.rfl).congr fun i => getD_eq_false_iff_of_failsWhen hitems i
    case malformed => exact groupWellFormed_eq_false
    case shared => simp [allGroups, mem_countedMembers, holds, and_assoc]
    case unlisted => simp [mem_countedMembers, holds]
  exact ⟨Configuration.valid_iff_checks.trans (forall_none_of_matches hmatches), namesFirst_of_matches hmatches⟩

end Sys2Proof.Machine
end

section
/-! SUPPORT. Bytes stored on the staging pages (8, R135; 12, R182, R184): each part of the configuration as the list of
its bytes, and why a byte written at one address changes what no other shows. -/

namespace Sys2Proof.Machine

/-! ## Bytes of wider fields -/

@[simp] theorem byteAt_append_zero {w : Nat} (x : BitVec w) (b : Byte) : byteAt (x ++ b) 0 = b := by
  ext i hi
  simp [byteAt, BitVec.getLsbD_append, hi]

@[simp] theorem byteAt_append_succ {w : Nat} (x : BitVec w) (b : Byte) (i : Nat) :
    byteAt (x ++ b) (i + 1) = byteAt x i := by
  ext j hj
  have hbeyond : ¬ 8 * (i + 1) + j < 8 := by omega
  have hshift : 8 * (i + 1) + j - 8 = 8 * i + j := by omega
  simp [byteAt, BitVec.getLsbD_append, hbeyond, hshift]

@[simp] theorem byteAt_zero (b : Byte) : byteAt b 0 = b := by simp [byteAt]

section

variable (v : BitVec 16) (b : Byte)

@[simp] theorem byteAt_setLow : byteAt (setLow v b) 0 = b ∧ byteAt (setLow v b) 1 = byteAt v 1 :=
  ⟨byteAt_append_zero _ b, (byteAt_append_succ _ b 0).trans (byteAt_zero _)⟩

@[simp] theorem byteAt_setHigh : byteAt (setHigh v b) 0 = byteAt v 0 ∧ byteAt (setHigh v b) 1 = b :=
  ⟨byteAt_append_zero b _, (byteAt_append_succ b _ 0).trans (byteAt_zero b)⟩

end

/-- The three bytes of a field put together. -/
@[simp] theorem byteAt_append (x y z : Byte) :
    byteAt (x ++ y ++ z) 0 = z ∧ byteAt (x ++ y ++ z) 1 = y ∧ byteAt (x ++ y ++ z) 2 = x :=
  ⟨byteAt_append_zero _ z, (byteAt_append_succ _ z 0).trans (byteAt_append_zero x y),
    (byteAt_append_succ _ z 1).trans ((byteAt_append_succ x y 0).trans (byteAt_zero x))⟩

/-- A field of five positions, of six, and a flag keep as many of the byte's lowest positions (12, R182). -/
theorem setWidth_byte (v : Byte) :
    (v.setWidth 5).setWidth 8 = v &&& 0x1F ∧ (v.setWidth 6).setWidth 8 = v &&& 0x3F ∧
      flagByte v[0] = v &&& 0x01 := by
  revert v
  decide

/-! ## A part of the configuration as the list of its bytes (12, R184) -/

/-- A reading by offset after the byte `b` is stored at `off`: that byte there, and every other byte as before. -/
def Stores (read read' : Nat → Option Byte) (off : Nat) (b : Byte) : Prop :=
  ∀ o, read' o = if o = off then some b else read o

theorem Stores.of_bytes {read read' : Nat → Option Byte} {bytes bytes' : List Byte} {off : Nat} {b : Byte}
    (hread : ∀ o, read o = bytes[o]?) (hread' : ∀ o, read' o = bytes'[o]?) (hset : bytes' = bytes.set off b)
    (hoff : off < bytes.length) : Stores read read' off b := by
  intro o
  rw [hread, hread', hset, List.getElem?_set, if_pos hoff, if_congr eq_comm rfl rfl]

theorem toList_put {α : Type} {n : Nat} (v : Vector α n) (i : Fin n) (x : α) :
    (put v i x).toList = v.toList.set i x := by
  refine List.ext_getElem (by simp) fun j hj _ => ?_
  simp [List.getElem_set, Fin.ext_iff, eq_comm]

/-- The bytes of the global parameters, by offset. -/
def Globals.bytes (g : Globals) : List Byte :=
  [g.calSamples, byteAt g.calSpread 0, byteAt g.calSpread 1, g.driftInterval, g.driftStep, g.negLimit, g.negRounds,
    byteAt g.noiseLimit 0, byteAt g.noiseLimit 1, g.hopSet.setWidth 8, g.hopRetries, g.faultRounds, g.roundPeriod,
    g.dozePeriod, g.dozeAfter, byteAt g.targetLo 0, byteAt g.targetLo 1, byteAt g.targetHi 0, byteAt g.targetHi 1]

theorem Globals.read_eq_bytes (g : Globals) (off : Nat) : g.read off = g.bytes[off]? := by
  by_cases h : off < 19
  · interval_cases off <;> rfl
  · obtain ⟨n, rfl⟩ := Nat.exists_eq_add_of_le' (Nat.not_lt.1 h)
    rfl

/-- The hop set has five positions (12, R182). -/
theorem Globals.write_stores (g : Globals) {off : Nat} (h : off < 19) (v : Byte) :
    ∃ g', g.write off v = some g' ∧ Stores g.read g'.read off (if off = 9 then v &&& 0x1F else v) := by
  have hbytes : ∃ g', g.write off v = some g' ∧ g'.bytes = g.bytes.set off (if off = 9 then v &&& 0x1F else v) := by
    interval_cases off
    all_goals exact ⟨_, rfl, by simp [Globals.bytes, setWidth_byte]⟩
  obtain ⟨g', hwrite, hset⟩ := hbytes
  exact ⟨g', hwrite, .of_bytes g.read_eq_bytes g'.read_eq_bytes hset h⟩

/-- The bytes of a channel configuration, by offset. -/
def ChannelConfig.bytes (ch : ChannelConfig) : List Byte :=
  [byteAt ch.electrodes 0, byteAt ch.electrodes 1, byteAt ch.electrodes 2, ch.trim.setWidth 8, ch.burst,
    byteAt ch.ceiling 0, byteAt ch.ceiling 1, byteAt ch.floor 0, byteAt ch.floor 1, ch.touch, ch.release, ch.prox,
    ch.downDebounce, ch.upDebounce, ch.maxOn, flagByte ch.wake]

theorem ChannelConfig.read_eq_bytes (ch : ChannelConfig) (off : Nat) : ch.read off = ch.bytes[off]? := by
  by_cases h : off < 16
  · interval_cases off <;> rfl
  · obtain ⟨n, rfl⟩ := Nat.exists_eq_add_of_le' (Nat.not_lt.1 h)
    rfl

/-- The trim is kept modulo 64, wake is bit 0 (12, R182). -/
theorem ChannelConfig.write_stores (ch : ChannelConfig) {off : Nat} (h : off < 16) (v : Byte) :
    ∃ ch', ch.write off v = some ch' ∧
      Stores ch.read ch'.read off (if off = 3 then v &&& 0x3F else if off = 15 then v &&& 0x01 else v) := by
  have hbytes : ∃ ch', ch.write off v = some ch' ∧
      ch'.bytes = ch.bytes.set off (if off = 3 then v &&& 0x3F else if off = 15 then v &&& 0x01 else v) := by
    interval_cases off
    all_goals exact ⟨_, rfl, by simp [ChannelConfig.bytes, setWidth_byte]⟩
  obtain ⟨ch', hwrite, hset⟩ := hbytes
  exact ⟨ch', hwrite, .of_bytes ch.read_eq_bytes ch'.read_eq_bytes hset h⟩

/-- The bytes of the stored scan list, by offset: the count, then the entries. -/
def ScanEntries.bytes (e : ScanEntries) : List Byte := e.count :: e.entries.toList

theorem ScanEntries.bytes_length (e : ScanEntries) : e.bytes.length = 25 := by simp [ScanEntries.bytes]

theorem ScanEntries.read_eq_bytes (e : ScanEntries) (off : Nat) : e.read off = e.bytes[off]? := by
  cases off with
  | zero => rfl
  | succ i =>
    by_cases h : i < 24
    · simp [ScanEntries.read, ScanEntries.bytes, h]
    · rw [e.read_none (by omega), eq_comm, List.getElem?_eq_none_iff, e.bytes_length]
      omega

theorem ScanEntries.write_stores (e : ScanEntries) {off : Nat} (h : off ≤ 24) (v : Byte) :
    ∃ e', e.write off v = some e' ∧ Stores e.read e'.read off v := by
  have hbytes : ∃ e', e.write off v = some e' ∧ e'.bytes = e.bytes.set off v := by
    cases off with
    | zero => exact ⟨_, rfl, rfl⟩
    | succ i =>
      refine ⟨{ e with entries := put e.entries ⟨i, by omega⟩ v }, ?_, ?_⟩
      · simp [ScanEntries.write, h]
      · simp [ScanEntries.bytes, toList_put]
  obtain ⟨e', hwrite, hset⟩ := hbytes
  exact ⟨e', hwrite, .of_bytes e.read_eq_bytes e'.read_eq_bytes hset (e.bytes_length ▸ Nat.lt_succ_of_le h)⟩

/-- The bytes of a group definition, by offset. -/
def GroupDef.bytes (d : GroupDef) : List Byte := d.kind :: d.count :: (d.members.toList ++ [d.moveThreshold])

theorem GroupDef.bytes_length (d : GroupDef) : d.bytes.length = 11 := by simp [GroupDef.bytes]

theorem GroupDef.read_eq_bytes (d : GroupDef) (off : Nat) : d.read off = d.bytes[off]? := by
  match off with
  | 0 => rfl
  | 1 => rfl
  | i + 2 =>
    obtain h | rfl | h : i < 8 ∨ i = 8 ∨ 8 < i := by omega
    · have hread := d.read_member ⟨i, h⟩
      rw [Nat.add_comm] at hread
      rw [hread]
      simp [GroupDef.bytes, List.getElem?_append, h]
    · simp [GroupDef.bytes, GroupDef.read]
    · rw [d.read_none (by omega), eq_comm, List.getElem?_eq_none_iff, d.bytes_length]
      omega

theorem GroupDef.write_stores (d : GroupDef) {off : Nat} (h : off ≤ 10) (v : Byte) :
    ∃ d', d.write off v = some d' ∧ Stores d.read d'.read off v := by
  have hbytes : ∃ d', d.write off v = some d' ∧ d'.bytes = d.bytes.set off v := by
    match off with
    | 0 => exact ⟨_, rfl, rfl⟩
    | 1 => exact ⟨_, rfl, rfl⟩
    | i + 2 =>
      obtain hi | rfl : i < 8 ∨ i = 8 := by omega
      · refine ⟨{ d with members := put d.members ⟨i, hi⟩ v }, ?_, ?_⟩
        · have hlast : i + 2 ≤ 9 := by omega
          simp [GroupDef.write, hlast]
        · simp [GroupDef.bytes, toList_put, hi]
      · exact ⟨_, rfl, by simp [GroupDef.bytes]⟩
  obtain ⟨d', hwrite, hset⟩ := hbytes
  exact ⟨d', hwrite, .of_bytes d.read_eq_bytes d'.read_eq_bytes hset (d.bytes_length ▸ Nat.lt_succ_of_le h)⟩

/-! ## Entries of a page (12, R184) -/

theorem channelAt_eq_some_iff {first a : Nat} {c : Channel} :
    channelAt first a = some c ↔ 0x20 ≤ a ∧ a < 0xE0 ∧ first ≤ 12 ∧ c.val = first + (a - 0x20) / 16 := by
  unfold channelAt
  split
  next h => simp [h, Fin.ext_iff, eq_comm]
  next h => exact iff_of_false (by simp) (by omega)

theorem groupAt_eq_some_iff {a : Nat} {g : GroupId} :
    groupAt a = some g ↔ 0x20 ≤ a ∧ a < 0x80 ∧ g.val = (a - 0x20) / 16 := by
  unfold groupAt
  split
  next h => simp [h, Fin.ext_iff, eq_comm]
  next h => exact iff_of_false (by simp) (by omega)

/-- One entry of a table replaced: a reading of an entry, where the byte stored is read, and as before elsewhere. -/
theorem bind_read_put {α : Type} {n : Nat} {read : α → Nat → Option Byte} {v : Vector α n} {c : Fin n} {x : α}
    {off : Nat} {b : Byte} (hx : Stores (read v[c]) (read x) off b) (entry : Option (Fin n)) (o : Nat) :
    (entry.bind fun d => read (put v c x)[d] o) =
      if entry = some c ∧ o = off then some b else entry.bind fun d => read v[d] o := by
  cases entry with
  | none => simp
  | some d =>
    by_cases hd : d = c
    · subst hd
      simpa using hx o
    · simp [hd]

/-! ## The staging pages (8, R135; 12, R181, R182) -/

/-- The copy `cfg'` shows the byte `b` at address `a` of page `sub`, and what `cfg` shows at every other address. -/
def Configuration.Stored (cfg cfg' : Configuration) (sub a : Nat) (b : Byte) : Prop :=
  ∀ sub' a', 0x20 ≤ a' → cfg'.read sub' a' = if sub' = sub ∧ a' = a then some b else cfg.read sub' a'

/-- A page shows the parts of the configuration laid out on it, and no other. -/
theorem Configuration.read_congr (cfg : Configuration) {cfg' : Configuration} {sub : Nat}
    (h0 : sub = 0 → cfg'.globals = cfg.globals ∧ cfg'.scan = cfg.scan)
    (h12 : sub = 1 ∨ sub = 2 → cfg'.channels = cfg.channels) (h3 : sub = 3 → cfg'.groups = cfg.groups) (a : Nat) :
    cfg'.read sub a = cfg.read sub a := by
  match sub with
  | 0 =>
    obtain ⟨hglobals, hscan⟩ := h0 rfl
    rw [Configuration.read, Configuration.read, hglobals, hscan]
  | 1 => rw [Configuration.read, Configuration.read, h12 (.inl rfl)]
  | 2 => rw [Configuration.read, Configuration.read, h12 (.inr rfl)]
  | 3 => rw [Configuration.read, Configuration.read, h3 rfl]
  | _ + 4 => rfl

section

variable (cfg : Configuration) {a sub : Nat} (v : Byte)

theorem Configuration.read_globals (h : a < 0x40) : cfg.read 0 a = cfg.globals.read (a - 0x20) :=
  if_neg (Nat.not_le.2 h)

theorem Configuration.read_scan (h : 0x40 ≤ a) : cfg.read 0 a = cfg.scan.read (a - 0x40) :=
  if_pos h

/-- Pages 1 and 2: channels 0 to 11, and 12 to 23. -/
theorem Configuration.read_channels (h : sub = 1 ∨ sub = 2) (a : Nat) :
    cfg.read sub a = (channelAt (12 * (sub - 1)) a).bind fun c => cfg.channels[c].read (entryOffset a) := by
  obtain rfl | rfl := h
  · rfl
  · rfl

theorem Configuration.write_channels (h : sub = 1 ∨ sub = 2) (a : Nat) :
    cfg.write sub a v = (channelAt (12 * (sub - 1)) a).bind fun c => cfg.writeChannel c (entryOffset a) v := by
  obtain rfl | rfl := h
  · rfl
  · rfl

theorem Configuration.write_globals_stored (hlow : 0x20 ≤ a) (hhigh : a ≤ 0x32) :
    ∃ cfg', cfg.write 0 a v = some cfg' ∧ cfg.Stored cfg' 0 a (if a = 0x29 then v &&& 0x1F else v) := by
  obtain ⟨g, hwrite, hstores⟩ := cfg.globals.write_stores (off := a - 0x20) (by omega) v
  refine ⟨{ cfg with globals := g }, ?_, fun sub' a' ha' => ?_⟩
  · rw [Configuration.write, if_neg (by omega), hwrite, Option.map_some]
  by_cases hregion : sub' = 0 ∧ a' < 0x40
  · obtain ⟨rfl, hglobals⟩ := hregion
    have hkept : a - 0x20 = 9 ↔ a = 0x29 := by omega
    rw [Configuration.read_globals _ hglobals, Configuration.read_globals _ hglobals, hstores, if_congr hkept rfl rfl]
    exact if_congr (by omega) rfl rfl
  · rw [if_neg (by omega)]
    obtain rfl | hsub := eq_or_ne sub' 0
    · rw [Configuration.read_scan _ (by omega), Configuration.read_scan _ (by omega)]
    · exact cfg.read_congr (fun h => absurd h hsub) (by simp) (by simp) a'

theorem Configuration.write_scan_stored (hlow : 0x40 ≤ a) (hhigh : a ≤ 0x58) :
    ∃ cfg', cfg.write 0 a v = some cfg' ∧ cfg.Stored cfg' 0 a v := by
  obtain ⟨e, hwrite, hstores⟩ := cfg.scan.write_stores (off := a - 0x40) (by omega) v
  refine ⟨{ cfg with scan := e }, ?_, fun sub' a' ha' => ?_⟩
  · rw [Configuration.write, if_pos hlow, hwrite, Option.map_some]
  by_cases hregion : sub' = 0 ∧ 0x40 ≤ a'
  · obtain ⟨rfl, hscan⟩ := hregion
    rw [Configuration.read_scan _ hscan, Configuration.read_scan _ hscan, hstores]
    exact if_congr (by omega) rfl rfl
  · rw [if_neg (by omega)]
    obtain rfl | hsub := eq_or_ne sub' 0
    · rw [Configuration.read_globals _ (by omega), Configuration.read_globals _ (by omega)]
    · exact cfg.read_congr (fun h => absurd h hsub) (by simp) (by simp) a'

theorem Configuration.write_channels_stored (hsub : sub = 1 ∨ sub = 2) (hlow : 0x20 ≤ a) (hhigh : a < 0xE0) :
    ∃ cfg', cfg.write sub a v = some cfg' ∧ cfg.Stored cfg' sub a
      (if entryOffset a = 3 then v &&& 0x3F else if entryOffset a = 15 then v &&& 0x01 else v) := by
  obtain ⟨c, hc⟩ : ∃ c, channelAt (12 * (sub - 1)) a = some c :=
    ⟨⟨12 * (sub - 1) + (a - 0x20) / 16, by omega⟩, channelAt_eq_some_iff.2 ⟨hlow, hhigh, by omega, rfl⟩⟩
  obtain ⟨ch, hwrite, hstores⟩ := cfg.channels[c].write_stores (Nat.mod_lt (a - 0x20) (by decide : 16 > 0)) v
  refine ⟨{ cfg with channels := put cfg.channels c ch }, ?_, fun sub' a' ha' => ?_⟩
  · rw [Configuration.write_channels _ _ hsub, hc, Option.bind_some, Configuration.writeChannel, entryOffset, hwrite,
      Option.map_some]
  by_cases hsub' : sub' = 1 ∨ sub' = 2
  · have hsame : channelAt (12 * (sub' - 1)) a' = some c ∧ entryOffset a' = entryOffset a ↔ sub' = sub ∧ a' = a := by
      obtain ⟨-, -, -, hval⟩ := channelAt_eq_some_iff.1 hc
      rw [channelAt_eq_some_iff, entryOffset, entryOffset]
      omega
    rw [Configuration.read_channels _ hsub', Configuration.read_channels _ hsub']
    exact (bind_read_put hstores _ _).trans (if_congr hsame rfl rfl)
  · rw [if_neg (by omega)]
    exact cfg.read_congr (by simp) (fun h => absurd h hsub') (by simp) a'

theorem Configuration.write_groups_stored (hlow : 0x20 ≤ a) (hhigh : a < 0x80) (hoff : entryOffset a ≤ 10) :
    ∃ cfg', cfg.write 3 a v = some cfg' ∧ cfg.Stored cfg' 3 a v := by
  obtain ⟨g, hg⟩ : ∃ g, groupAt a = some g :=
    ⟨⟨(a - 0x20) / 16, by omega⟩, groupAt_eq_some_iff.2 ⟨hlow, hhigh, rfl⟩⟩
  obtain ⟨d, hwrite, hstores⟩ := cfg.groups[g].write_stores hoff v
  refine ⟨{ cfg with groups := put cfg.groups g d }, ?_, fun sub' a' ha' => ?_⟩
  · rw [Configuration.write, hg, Option.bind_some, hwrite, Option.map_some]
  obtain rfl | hsub := eq_or_ne sub' 3
  · have hsame : groupAt a' = some g ∧ entryOffset a' = entryOffset a ↔ 3 = 3 ∧ a' = a := by
      obtain ⟨-, -, hval⟩ := groupAt_eq_some_iff.1 hg
      rw [groupAt_eq_some_iff, entryOffset, entryOffset]
      omega
    exact (bind_read_put hstores _ _).trans (if_congr hsame rfl rfl)
  · rw [if_neg fun h => hsub h.1]
    exact cfg.read_congr (by simp) (by simp) (fun h => absurd h hsub) a'

end

/-! ## A byte at an assigned address (12, R182) -/

section

variable (address v : Byte)

theorem storedByte_zero : storedByte 0 address v = if address.toNat = 0x29 then v &&& 0x1F else v := by
  simp [storedByte, ← BitVec.toNat_inj]

theorem storedByte_channels {page : Byte} (h : page = 1 ∨ page = 2) :
    storedByte page address v = if entryOffset address.toNat = 3 then v &&& 0x3F
      else if entryOffset address.toNat = 15 then v &&& 0x01 else v := by
  have hglobals : ¬ (page = 0 ∧ address = 0x29) := by bv_omega
  exact (if_neg hglobals).trans (if_congr (and_iff_right h) rfl (if_congr (and_iff_right h) rfl rfl))

theorem storedByte_three : storedByte 3 address v = v := by
  simp [storedByte]

end

/-- A byte at an assigned address of a staging page is kept as R182 says, and shows there alone. -/
theorem Configuration.write_stored (cfg : Configuration) {page address : Byte} (hp : page.toNat ≤ 3)
    (ha : 0x20 ≤ address.toNat) (h : ignoresEveryWrite page address = false) (v : Byte) :
    ∃ cfg', cfg.write page.toNat address.toNat v = some cfg' ∧
      cfg.Stored cfg' page.toNat address.toNat (storedByte page address v) := by
  have hpage : page = 0 ∨ page = 1 ∨ page = 2 ∨ page = 3 := by bv_omega
  rw [ignoresEveryWrite, if_neg (Nat.not_lt.2 ha)] at h
  obtain rfl | rfl | rfl | rfl := hpage
  case inl =>
    rw [storedByte_zero]
    obtain hglobals | ⟨hscan, hhigh⟩ : address.toNat ≤ 0x32 ∨ 0x40 ≤ address.toNat ∧ address.toNat ≤ 0x58 := by
      simpa [or_iff_not_imp_left] using h
    · exact cfg.write_globals_stored v ha hglobals
    · rw [if_neg (by omega)]
      exact cfg.write_scan_stored v hscan hhigh
  case inr.inl =>
    rw [storedByte_channels _ _ (.inl rfl)]
    exact cfg.write_channels_stored v (.inl rfl) ha (by simpa using h)
  case inr.inr.inl =>
    rw [storedByte_channels _ _ (.inr rfl)]
    exact cfg.write_channels_stored v (.inr rfl) ha (by simpa using h)
  case inr.inr.inr =>
    obtain ⟨hhigh, hoff⟩ : address.toNat < 0x80 ∧ entryOffset address.toNat ≤ 10 := by simpa [entryOffset] using h
    rw [storedByte_three]
    exact cfg.write_groups_stored v ha hhigh hoff

@[simp] theorem HostPort.after_page (p : HostPort) (address : Byte) : (p.after address).page = p.page := rfl

/-- Settles O24: the byte is stored in staging, which moves no line, and shows at its address alone. -/
theorem stagingWritesReadBack : Obligations.StagingWritesReadBack := by
  intro s v hwrites hpage hlow hassigned
  obtain ⟨cfg, hwrite, hstored⟩ := s.store.staging.write_stored hpage hlow hassigned v
  have hat : s.writeAt s.port.pointer v = s.withStore { s.store with staging := cfg } := by
    rw [State.writeAt, if_neg (Nat.not_lt.2 hlow), State.writePaged, if_pos hpage, State.writeStaging, hwrite]
  refine ⟨_, exec_registerWrite hwrites v, ?_⟩
  rw [State.hostWrite_quiet hat rfl rfl rfl rfl]
  refine ⟨?shown, fun page a hother ha => ?others, rfl, rfl, rfl, by simp [Keeps]⟩
  case shown =>
    have hbyte := hstored s.port.page.toNat s.port.pointer.toNat hlow
    rw [if_pos ⟨rfl, rfl⟩] at hbyte
    rw [State.liveByte, if_neg (Nat.not_lt.2 hlow), State.pageByte]
    simp [hpage, hbyte]
  case others =>
    have hbyte := hstored page.val a.val ha
    rw [if_neg (by omega)] at hbyte
    simp [State.pageByte, hbyte]

end Sys2Proof.Machine
end

section
/-! SUPPORT. TRIM in STOPPED (7, R128; 9, R152, R153): the search as it begins, and the part after the command. -/

namespace Sys2Proof.Machine

/-- The first measurement of a search is made at the trial trim 32: pass 1 tests the place 32 over the value 0
(9, R153). -/
@[simp] theorem trimRunFor_named (cfg : Configuration) (c : Channel) : (trimRunFor cfg).named c = 32 := by
  have htrial : (trimRunFor cfg).trial[c] = 0 := by simp [trimRunFor]
  have hplace : placeUnderTest (trimRunFor cfg).pass = 32 := rfl
  rw [TrimRun.named, htrial, hplace]
  rfl

/-- A search begins with every trial value 0 and every found status none (9, R152). -/
theorem trimRunFor_tables (cfg : Configuration) (d : Channel) :
    (trimRunFor cfg).trial[d] = 0 ∧ (trimRunFor cfg).found[d] = .none := by
  simp [trimRunFor]

/-- TRIM in STOPPED with a non-empty list requests the list's first channel (9, R153). -/
theorem State.takeTrim_of_list {s : State} {c : Channel} {rest : List Channel} (hmode : s.scan.mode = .stopped)
    (hlist : s.live.scanList = c :: rest) :
    s.takeTrim =
      (((s.enterBusy .trim .trim).changeMode .trim .command 0xFF).withTrimRun (some (trimRunFor s.live))).request
        .trim c 32 := by
  have hfirst : (trimRunFor s.live).channels[(trimRunFor s.live).place]? = some c := by simp [trimRunFor, hlist]
  rw [State.takeTrim, if_neg (not_not_intro hmode), if_neg (by simp [hlist]), State.requestTrim_of_channel _ hfirst,
    trimRunFor_named]

/-- Settles O13, by the state the command leaves; no line follows it. -/
theorem trimBeginsSearch : Obligations.TrimBeginsSearch := by
  intro s c rest hidle hmode hlist
  have htake : s.takeCommand .trim = _ := State.takeTrim_of_list hmode hlist
  refine ⟨_, exec_command_quiet hidle rfl htake (by simp) (by simp) (by simp) (by simp [hmode]), ?scan,
    ⟨trimRunFor s.live, ?run, hlist, rfl, rfl, rfl, rfl, trimRunFor_tables s.live⟩, ?engine, ?queue, ?command, ?port,
    ?frame⟩
  case scan => simp
  case run => simp
  case engine => simp [State.live]
  case queue => simp [modeRecord, Mode.code, ModeCause.code]
  case command => simp [CommandName.code]
  case port => simp
  case frame => simp [Keeps]

end Sys2Proof.Machine
end

section
/-! SUPPORT. DOZE in ACTIVE (2, R31; 3, R59; 10, R163): the non-wake keys it releases, the part in DOZE, and O14. -/

namespace Sys2Proof.Machine

/-- The keys that DOZE releases are the listed ones whose wake flag is clear (10, R163). -/
theorem mem_nonWakeChannels (cfg : Configuration) (c : Channel) :
    c ∈ cfg.nonWakeChannels ↔ cfg.listed c = true ∧ cfg.channels[c].wake = false := by
  simp [Configuration.nonWakeChannels, listed_iff_mem]

/-- DOZE's release, key by key (3, R59; 10, R163). -/
theorem State.releaseForDoze_keys (s : State) (c : Channel) :
    s.releaseForDoze.keys[c] =
      if s.live.listed c = true ∧ s.live.channels[c].wake = false ∧ s.keys[c].state.handThere = true then
        s.keys[c].atIdle
      else s.keys[c] := by
  have hkey : s.releaseForDoze.keys[c] =
      if c ∈ s.live.nonWakeChannels then (releaseKey s.live .doze c s.keys[c]).1 else s.keys[c] := by
    simp [State.releaseForDoze]
  simp only [hkey, releaseKey_eq, mem_nonWakeChannels, ite_and]

theorem flatMap_filter_eq {α β : Type} (p : α → Bool) (f : α → List β) (l : List α) :
    (l.filter p).flatMap f = l.flatMap fun a => if p a = true then f a else [] := by
  induction l with
  | nil => rfl
  | cons a rest ih => cases h : p a <;> simp [h, ih]

/-- The records of the non-wake channels are those of the whole list, the wake channels passed over. -/
theorem Configuration.nonWakeChannels_flatMap (cfg : Configuration) (f : Channel → List EventRecord) :
    cfg.nonWakeChannels.flatMap f =
      cfg.scanList.flatMap fun c => if cfg.channels[c].wake = false then f c else [] := by
  simp only [Configuration.nonWakeChannels, flatMap_filter_eq, Bool.not_eq_true']

/-- The records of DOZE's release: those of the non-wake keys, then those of their groups (3, R59; 5, R97). -/
theorem State.releaseForDoze_queue (s : State) :
    s.releaseForDoze.queue = s.queue.offerAll
      (s.live.scanList.flatMap (fun c =>
          if s.live.channels[c].wake = false ∧ s.keys[c].state.handThere = true then
            forcedRecords (s.live.sliderMember c) 0x04 c s.keys[c] else [])
        ++ s.groupLeftRecords s.releaseForDoze.keys 0x04) := by
  have h := s.forceKeys_followGroups_queue s.live.nonWakeChannels (releaseKey s.live .doze) .doze
  simp only [releaseKey_eq, Configuration.nonWakeChannels_flatMap, ← ite_and] at h
  exact h

/-- The part that DOZE has put into DOZE (10, R163). -/
def State.dozed (s : State) : State :=
  (((s.abandonRound.setDozeTimer).releaseForDoze).changeMode .doze .command 0xFF).endCommand CommandName.doze.code .ok 0

/-- DOZE is accepted in ACTIVE with no non-wake listed key in CAL (10, R162, R163). -/
theorem State.takeDoze_of_ready {s : State} (hmode : s.scan.mode = .active)
    (hcal : ∀ c : Channel, s.live.listed c = true → s.live.channels[c].wake = false → s.keys[c].state ≠ .cal) :
    s.takeDoze = s.dozed := by
  have hready : ¬ s.dozeBlocked = true := by
    rw [State.dozeBlocked_iff]
    rintro ⟨c, hlisted, hwake, hstate⟩
    exact hcal c hlisted hwake hstate
  exact if_neg (not_or.2 ⟨not_not_intro hmode, hready⟩)

/-- What DOZE's release leaves of the keys stands in DOZE. -/
theorem State.dozed_keys (s : State) : s.dozed.keys = s.abandonRound.setDozeTimer.releaseForDoze.keys := by
  simp [State.dozed]

/-- The round in flight is gone, and the timer stands one doze period ahead (2, R31). -/
theorem State.dozed_scan (s : State) :
    s.dozed.scan = { s.scan with
      mode := .doze, round := none, timer := some (10 * s.live.globals.dozePeriod.toNat), due := false } := by
  simp [State.dozed, State.setDozeTimer, State.abandonRound, State.live, Configuration.period]

/-- The groups follow the keys that DOZE released (5, R97). -/
theorem State.dozed_groupsFollow (s : State) : GroupsFollow s s.dozed :=
  have hrelease : GroupsFollow s s.abandonRound.setDozeTimer.releaseForDoze :=
    s.abandonRound.setDozeTimer.forceKeys_groupsFollow s.live.nonWakeChannels (releaseKey s.live .doze) .doze
  hrelease.congr (by simp [State.dozed]) s.dozed_keys

/-- The records of the release, then MODE(DOZE, COMMAND) and CMD_DONE (10, R163). -/
theorem State.dozed_queue (s : State) :
    s.dozed.queue = s.queue.offerAll
      (s.live.scanList.flatMap (fun c =>
          if s.live.channels[c].wake = false ∧ s.keys[c].state.handThere = true then
            forcedRecords (s.live.sliderMember c) 0x04 c s.keys[c] else [])
        ++ s.groupLeftRecords s.dozed.keys 0x04 ++ [⟨.mode, 2, 0, 0xFF⟩, ⟨.cmdDone, 0x06, 0x02, 0⟩]) := by
  have hlast : s.dozed.queue = s.abandonRound.setDozeTimer.releaseForDoze.queue.offerAll
      [⟨.mode, 2, 0, 0xFF⟩, ⟨.cmdDone, 0x06, 0x02, 0⟩] := by
    simp [State.dozed, modeRecord, cmdDoneRecord, Mode.code, ModeCause.code, CommandName.code, ResultCode.code]
  rw [State.releaseForDoze_queue, ← EventQueue.offerAll_append, ← State.dozed_keys] at hlast
  exact hlast

/-- Settles O14: the release of DOZE, on a part whose round is gone and whose timer is set. -/
theorem dozeReleasesNonWakeKeys : Obligations.DozeReleasesNonWakeKeys := by
  intro s hidle hmode hcal
  have hexec := exec_command_idle (i := .doze) (n := .doze) hidle rfl
  rw [State.takeCommand, State.takeDoze_of_ready hmode hcal] at hexec
  refine ⟨_, hexec, s.dozed_scan, ?engine, fun c => ?keys, s.dozed_groupsFollow, State.driveFrom_follows ?lines,
    s.dozed_queue, ?command, ?port, ?frame⟩
  case engine => simp [State.dozed, State.abandonRound, State.abandonMeasurement]
  case keys => exact (congrArg (·[c]) s.dozed_keys).trans (s.abandonRound.setDozeTimer.releaseForDoze_keys c)
  case lines => simp [State.dozed]
  case command => simp [State.dozed, hidle.noWork, CommandName.code]
  case port => simp [State.dozed]
  case frame => simp [Keeps, State.dozed]

end Sys2Proof.Machine
end

section
/-! SUPPORT. The indicator lines (11, R170 to R176): a line at rest with a target, what every event keeps of it, and
O57. -/

namespace Sys2Proof.Machine

/-! ## A line at rest (11, R173, R174) -/

/-- The line rests with a target: at interval 0 it stands there with its timer stopped, else its timer runs, at its
interval, exactly while its level differs from the target. -/
def IndicatorLine.RestsAt (l : IndicatorLine) (target : BitVec 6) : Prop :=
  if l.fade = 0 then l.level = target ∧ l.timer = none
  else l.timer = if l.level = target then none else some l.interval

theorem State.lineRests_iff (s : State) (l : IndicatorLine) : s.LineRests l ↔ l.RestsAt (s.targetLevel l) := Iff.rfl

theorem State.LinesRest.restsAt {s : State} (h : s.LinesRest) (i : LineId) :
    s.lines[i].RestsAt (s.targetLevel s.lines[i]) := h i

section

variable {l l' : IndicatorLine} {target old : BitVec 6}

/-- Only the level, the interval and the timer count. -/
theorem IndicatorLine.RestsAt.congr (h : l.RestsAt target) (hfade : l'.fade = l.fade) (hlevel : l'.level = l.level)
    (htimer : l'.timer = l.timer) : l'.RestsAt target := by
  simpa only [IndicatorLine.RestsAt, IndicatorLine.interval, hfade, hlevel, htimer] using h

/-- The line stands at the target, or its timer runs toward it. -/
theorem IndicatorLine.restsAt_iff : l.RestsAt target ↔
    l.level = target ∧ l.timer = none ∨ l.fade ≠ 0 ∧ l.level ≠ target ∧ l.timer = some l.interval := by
  unfold IndicatorLine.RestsAt
  by_cases hfade : l.fade = 0
  · simp only [hfade, if_true, ne_eq, not_true, false_and, or_false]
  · rw [if_neg hfade]
    by_cases hlevel : l.level = target
    · simp [hlevel]
    · simp only [hlevel, hfade, if_false, false_and, false_or, ne_eq, not_false_eq_true, true_and]

/-- A line meets a target by a jump, or by its timer: at rest where the timer is stopped or runs at its interval. -/
theorem IndicatorLine.meet_restsAt (h : l.timer = none ∨ l.timer = some l.interval) :
    (l.meet target).RestsAt target := by
  rw [IndicatorLine.restsAt_iff]
  unfold IndicatorLine.meet
  split
  · exact .inl ⟨rfl, rfl⟩
  next hfade =>
    split
    next hlevel => exact .inl ⟨hlevel, rfl⟩
    next hlevel =>
      split
      next => exact .inr ⟨hfade, hlevel, rfl⟩
      next ms hms => exact .inr ⟨hfade, hlevel, h.resolve_left (by simp [hms])⟩

/-- A line at rest with its old target rests with the new one it meets. -/
theorem IndicatorLine.RestsAt.meet (h : l.RestsAt old) : (l.meet target).RestsAt target := by
  obtain ⟨-, hstopped⟩ | ⟨-, -, hrunning⟩ := IndicatorLine.restsAt_iff.1 h
  · exact IndicatorLine.meet_restsAt (.inl hstopped)
  · exact IndicatorLine.meet_restsAt (.inr hrunning)

/-- A line whose timer runs fades. -/
theorem IndicatorLine.RestsAt.fade_ne_zero (h : l.RestsAt target) (hrun : l.timer ≠ none) : l.fade ≠ 0 := by
  obtain ⟨-, hstopped⟩ | ⟨hfade, -, -⟩ := IndicatorLine.restsAt_iff.1 h
  · exact absurd hstopped hrun
  · exact hfade

/-- A fade step that ends the fade stops the timer, and any other restarts it (11, R173). -/
theorem IndicatorLine.fadeStep_restsAt (h : l.fade ≠ 0) : (l.fadeStep target).RestsAt target := by
  rw [IndicatorLine.restsAt_iff]
  by_cases hlevel : stepToward l.level target = target
  · exact .inl ⟨hlevel, if_pos hlevel⟩
  · exact .inr ⟨h, hlevel, if_neg hlevel⟩

/-- A new fade interval (11, R174): a jump at 0, else the timer starts afresh while the level differs. -/
theorem IndicatorLine.RestsAt.changeFade (h : l.RestsAt target) (fade : BitVec 4) :
    (l.changeFade fade target).RestsAt target := by
  unfold IndicatorLine.changeFade
  split
  · exact h
  rw [IndicatorLine.restsAt_iff]
  split
  · exact .inl ⟨rfl, rfl⟩
  next hfade =>
    split
    next hlevel => exact .inl ⟨hlevel, rfl⟩
    next hlevel => exact .inr ⟨hfade, hlevel, rfl⟩

/-- An item that is written leaves the level, the interval and the timer (11, R170). -/
theorem IndicatorLine.writeItem_level_fade_timer {item : IndicatorItem} {v : Byte} (h : l.writeItem item v = some l') :
    l'.level = l.level ∧ l'.fade = l.fade ∧ l'.timer = l.timer := by
  cases item with
  | source =>
    obtain ⟨source, -, rfl⟩ := Option.map_eq_some_iff.1 h
    exact ⟨rfl, rfl, rfl⟩
  | currentLevel => cases h
  | hostBit | onLevel | offLevel | flags =>
    obtain ⟨-, hl⟩ := Option.ite_none_right_eq_some.1 h
    obtain rfl := Option.some.inj hl
    exact ⟨rfl, rfl, rfl⟩

end

/-- Meeting a target changes nothing that the line's target is made of. -/
theorem State.targetLevel_meet (s : State) (l : IndicatorLine) (target : BitVec 6) :
    s.targetLevel (l.meet target) = s.targetLevel l := by
  unfold IndicatorLine.meet
  repeat' split
  all_goals exact s.targetLevel_of_line rfl rfl rfl rfl rfl

/-! ## Lines at rest through an event -/

/-- Every line of `u` rests with the target that it has in `s`. -/
def State.RestUnder (u s : State) : Prop := ∀ i : LineId, u.lines[i].RestsAt (s.targetLevel s.lines[i])

section

variable {s u : State}

theorem State.LinesRest.restUnder (h : s.LinesRest) (hl : u.lines = s.lines) : u.RestUnder s := fun i => hl ▸ h i

/-- An event that stores one line, at rest with the target it had. -/
theorem State.LinesRest.setLine (h : s.LinesRest) {i : LineId} {l : IndicatorLine}
    (hl : l.RestsAt (s.targetLevel s.lines[i])) : (s.setLine i l).RestUnder s := by
  intro j
  by_cases hj : j = i
  · subst hj
    rwa [s.setLine_lines_same]
  · rw [s.setLine_lines_other hj]
    exact h j

theorem State.driveFrom_lines (s u : State) (i : LineId) :
    (State.driveFrom s u).lines[i] =
      if s.targetLevel s.lines[i] = u.targetLevel u.lines[i] then u.lines[i]
      else u.lines[i].meet (u.targetLevel u.lines[i]) := by
  simp [State.driveFrom]

/-- The end of an event: a line with a new target meets it, and every other line rests already (11, R172). -/
theorem State.RestUnder.driveFrom (h : u.RestUnder s) : (State.driveFrom s u).LinesRest := by
  intro i
  rw [State.lineRests_iff, State.driveFrom_targetLevel, State.driveFrom_lines]
  split
  next hsame => exact hsame ▸ h i
  next =>
    rw [State.targetLevel_meet]
    exact (h i).meet

/-- Lines rest whatever the blocks that no target is made of. -/
theorem State.LinesRest.congr (h : s.LinesRest) (hl : u.lines = s.lines) (hk : u.keys = s.keys)
    (hg : u.groups = s.groups) (hm : u.scan.mode = s.scan.mode) : u.LinesRest := by
  intro i
  rw [State.lineRests_iff, hl, ← State.targetLevel_congr (s := s) (t := u) hk hg (by rw [hm])]
  exact h i

/-! ## Bytes on the bus -/

theorem State.LinesRest.writeLinePage (h : s.LinesRest) (a : Nat) (v : Byte) : (s.writeLinePage a v).RestUnder s := by
  have hignored : s.ignoreWrite.RestUnder s := h.restUnder rfl
  unfold State.writeLinePage
  split
  next => exact hignored
  next i _ =>
    split
    next =>
      unfold State.writeFade
      split
      · exact h.setLine ((h.restsAt i).changeFade _)
      · exact hignored
    next =>
      split
      next item _ =>
        unfold State.writeIndicator
        split
        next l hl =>
          obtain ⟨hlevel, hfade, htimer⟩ := IndicatorLine.writeItem_level_fade_timer hl
          exact h.setLine ((h.restsAt i).congr hfade hlevel htimer)
        next => exact hignored
      next => exact hignored

/-- Outside page 6 a byte writes no line. -/
theorem State.LinesRest.writeAt (h : s.LinesRest) (a v : Byte) : (s.writeAt a v).RestUnder s := by
  unfold State.writeAt State.writePaged
  repeat' split
  · exact h.restUnder (by simp)
  · exact h.restUnder (by simp)
  · exact h.writeLinePage _ v
  · exact h.restUnder rfl

theorem State.LinesRest.hostWrite (h : s.LinesRest) (a v : Byte) : (s.hostWrite a v).LinesRest :=
  State.RestUnder.driveFrom (u := (s.writeAt a v).pointAfter a .write) (h.writeAt a v)

theorem State.LinesRest.hostRead (h : s.LinesRest) (a : Byte) : (s.hostRead a).LinesRest :=
  h.congr (by simp) (by simp) (by simp) (by simp)

section

variable {f : State → State} (hf : ∀ u : State, u.LinesRest → (f u).LinesRest)

include hf

theorem State.LinesRest.beginTransaction (h : s.LinesRest) (d : Direction) (next : Byte) :
    (s.beginTransaction d next f).LinesRest := by
  unfold State.beginTransaction
  split
  · exact h
  · exact hf s h
  · dsimp only
    split
    · exact hf _ h
    · exact h

theorem State.LinesRest.furtherByte (h : s.LinesRest) (d : Direction) : (s.furtherByte d f).LinesRest := by
  unfold State.furtherByte
  repeat' split
  · exact hf s h
  all_goals exact h

theorem State.LinesRest.onBus (h : s.LinesRest) (d : Direction) (a : Byte) : (s.onBus d a f).LinesRest := by
  unfold State.onBus
  split
  · exact h.furtherByte hf d
  · exact h.beginTransaction hf d _

end

/-! ## Events inside the part and resets -/

theorem State.LinesRest.inside (h : s.LinesRest) {f : State → State} (hf : (f s).RestUnder s) :
    (s.inside f).LinesRest := by
  unfold State.inside
  split
  · exact h
  · exact hf.driveFrom

/-- A fade timer that runs has a nonzero interval, and the step leaves its line at rest. -/
theorem State.LinesRest.expireFadeTimer (h : s.LinesRest) (i : LineId) : (s.expireFadeTimer i).RestUnder s := by
  unfold State.expireFadeTimer
  split
  next => exact h.restUnder rfl
  next ms hms =>
    have hfade : s.lines[i].fade ≠ 0 := (h.restsAt i).fade_ne_zero (Option.ne_none_iff_exists'.2 ⟨ms, hms⟩)
    exact h.setLine (IndicatorLine.fadeStep_restsAt hfade)

/-- A frame fixes the duty and the sense alone (11, R175). -/
theorem State.LinesRest.startFrame (h : s.LinesRest) : s.startFrame.RestUnder s := by
  intro i
  rw [s.startFrame_lines i]
  exact (h.restsAt i).congr rfl rfl rfl

/-- The warm reset stops every timer, and each line meets its target (11, R176). -/
theorem State.warmReset_linesRest (s : State) : s.warmReset.LinesRest := by
  intro i
  rw [State.lineRests_iff, s.warmReset_lines i, State.targetLevel_meet, State.targetLevel_warmLine]
  exact IndicatorLine.meet_restsAt (.inl rfl)

theorem State.powerOnValues_linesRest (s : State) (power : Power) (address : BitVec 7)
    (transaction : Option Transaction) : (s.powerOnValues power address transaction).LinesRest :=
  State.reset_linesRest.congr rfl rfl rfl rfl

theorem State.LinesRest.endTransaction (h : s.LinesRest) {kind : ResetKind} {reset : State → State}
    (hreset : (reset s).LinesRest) : (s.endTransaction kind reset).LinesRest := by
  unfold State.endTransaction
  split
  · exact hreset
  · exact h

/-! ## Every event -/

/-- Every event keeps every line at rest. -/
theorem exec_linesRest {i : Instr} {t : State} (h : s.LinesRest) (hexec : exec i s = .next t) : t.LinesRest := by
  have hread (a : Byte) (u : State) (hu : u.LinesRest) : (u.hostRead a).LinesRest := hu.hostRead a
  cases hw : writtenAt i with
  | some av =>
    obtain ⟨a, v⟩ := av
    rw [exec_of_writtenAt hw, Host.Outcome.next.injEq] at hexec
    rw [← hexec]
    exact h.onBus (fun u hu => hu.hostWrite a v) .write a
  | none =>
    cases i with
    | registerWrite value =>
      obtain rfl := Host.Outcome.next.inj hexec
      exact h.furtherByte (fun u hu => hu.hostWrite u.port.pointer value) .write
    | registerPointer value =>
      obtain rfl := Host.Outcome.next.inj hexec
      exact h.beginTransaction (f := fun u => u.setPointer value) (fun _ hu => hu) .write value
    | hold =>
      obtain rfl := Host.Outcome.next.inj hexec
      exact h.onBus (hread 0x10) .read 0x10
    | pop =>
      obtain rfl := Host.Outcome.next.inj hexec
      exact h.onBus (hread 0x13) .read 0x13
    | latchedFieldRead =>
      obtain rfl := Host.Outcome.next.inj hexec
      exact h.onBus (fun u => hread u.port.pointer u) .read s.port.pointer
    | roundTimerExpiry =>
      obtain rfl := Host.Outcome.next.inj hexec
      exact h.inside (h.restUnder (by simp))
    | conversion cycles =>
      obtain rfl := Host.Outcome.next.inj hexec
      exact h.inside (h.restUnder (by simp))
    | fadeTimerExpiry line =>
      obtain rfl := Host.Outcome.next.inj hexec
      exact h.inside (h.expireFadeTimer line)
    | pulseTimerExpiry =>
      obtain rfl := Host.Outcome.next.inj hexec
      exact h.inside (h.restUnder rfl)
    | pwmFrame =>
      obtain rfl := Host.Outcome.next.inj hexec
      exact h.inside h.startFrame
    | startUpTimeEnd =>
      obtain rfl := Host.Outcome.next.inj hexec
      unfold State.endStartUp
      split <;> exact h
    | resetnAssert =>
      obtain rfl := Host.Outcome.next.inj hexec
      exact s.powerOnValues_linesRest _ _ _
    | resetnRelease addrHigh =>
      obtain rfl := Host.Outcome.next.inj hexec
      exact s.powerOnValues_linesRest _ _ _
    | coldReset =>
      obtain rfl := Host.Outcome.next.inj hexec
      exact h.endTransaction (s.powerOnValues_linesRest _ _ _)
    | warmReset =>
      obtain rfl := Host.Outcome.next.inj hexec
      exact h.endTransaction s.warmReset_linesRest
    | _ => cases hw

end

/-- Settles O57: an event leaves each line at rest with the target it had, and a line with a new target meets it; the
resets leave all lines at rest afresh. -/
theorem linesFollowTargets : Obligations.LinesFollowTargets := by
  intro s t hrest hstep
  unfold step at hstep
  split at hstep
  · obtain rfl := Host.Outcome.next.inj hstep
    exact hrest
  next i rest _ => exact exec_linesRest (s := s.withPending rest) hrest hstep

end Sys2Proof.Machine
end

section
/-! SUPPORT. The target levels (11, R171), and the bytes the host writes on the indicator page (11, R170, R174; 12,
R182). -/

namespace Sys2Proof.Machine

/-! ## Target levels (11, R171) -/

section

variable {s : State} {l : IndicatorLine}

theorem State.targetLevel_of_dark (hdark : l.dozeDark = true) (hdoze : s.scan.mode = .doze) : s.targetLevel l = 0 :=
  if_pos ⟨hdark, hdoze⟩

theorem State.targetLevel_of_lit (h : l.dozeDark = false ∨ s.scan.mode ≠ .doze) : s.targetLevel l = s.sourceLevel l :=
  if_neg fun ⟨hdark, hdoze⟩ => h.elim (fun hlit => by simp [hlit] at hdark) fun hmode => hmode hdoze

end

/-! ## Bytes of a line's entry (12, R182, R184) -/

/-- The source codes of the register window (12, R184, page 6). -/
theorem IndicatorLine.writeItem_source (l : IndicatorLine) (v : Byte) :
    l.writeItem .source v =
      if v = 0 then some { l with source := .off }
      else if v = 1 then some { l with source := .host }
      else if h : 0x40 ≤ v.toNat ∧ v.toNat ≤ 0x57 then some { l with source := .key ⟨v.toNat - 0x40, by omega⟩ }
      else if h : 0x80 ≤ v.toNat ∧ v.toNat ≤ 0x85 then some { l with source := .group ⟨v.toNat - 0x80, by omega⟩ }
      else none := by
  simp only [IndicatorLine.writeItem, lineSourceOf, ← Nat.lt_succ_iff]
  repeat' split
  all_goals rfl

/-- The one bit that a byte of 0 or 1 leaves is whether it is 1. -/
theorem IndicatorLine.writeItem_hostBit (l : IndicatorLine) (v : Byte) :
    l.writeItem .hostBit v = if v.toNat ≤ 1 then some { l with hostBit := v == 1 } else none := by
  by_cases hv : v.toNat ≤ 1
  · have hbit : v = 0 ∨ v = 1 := by bv_omega
    obtain rfl | rfl := hbit <;> rfl
  · simp [IndicatorLine.writeItem, hv]

theorem itemAddress_toNat (line : LineId) {off : Nat} (h : off < 8) :
    (itemAddress line off).toNat = 0x20 + 8 * line.val + off := by
  rw [itemAddress, BitVec.toNat_ofNat]
  omega

section

variable {s : State}

/-- On page 6 a byte in a line's entry goes to the entry. -/
theorem State.writeAt_linePage (hpage : s.port.page = 6) (line : LineId) {off : Nat} (h : off < 8) (v : Byte) :
    s.writeAt (itemAddress line off) v = s.writeLinePage (0x20 + 8 * line.val + off) v := by
  rw [State.writeAt, itemAddress_toNat line h, if_neg (by omega), State.writePaged, hpage, if_neg (by decide),
    if_pos (by decide)]

theorem State.writeAt_item (hpage : s.port.page = 6) (line : LineId) (item : IndicatorItem) (v : Byte) :
    s.writeAt (itemAddress line (itemOffset item)) v = s.writeIndicator line item v := by
  have hoff : itemOffset item < 8 := by cases item <;> decide
  obtain ⟨hat, hrest⟩ := lineAt_eq line hoff
  rw [State.writeAt_linePage hpage line hoff, State.writeLinePage, hat, hrest]
  cases item <;> rfl

theorem State.writeAt_fade (hpage : s.port.page = 6) (line : LineId) (v : Byte) :
    s.writeAt (itemAddress line 4) v = s.writeFade line v := by
  obtain ⟨hat, hrest⟩ := lineAt_eq line (off := 4) (by decide)
  rw [State.writeAt_linePage hpage line (by decide), State.writeLinePage, hat, hrest]
  rfl

/-! ## A line stored by the host (11, R172, R173) -/

variable {a v : Byte} {i : LineId} {l : IndicatorLine}

theorem State.hostWrite_lines_other (hstore : s.writeAt a v = s.setLine i l) {j : LineId} (hj : j ≠ i) :
    (s.hostWrite a v).lines[j] = s.lines[j] := by
  have hline : ((s.setLine i l).pointAfter a .write).lines[j] = s.lines[j] := s.setLine_lines_other hj l
  rw [State.hostWrite, hstore, State.driveFrom_lines, hline]
  exact if_pos rfl

theorem State.hostWrite_lines_same (hstore : s.writeAt a v = s.setLine i l) :
    (s.hostWrite a v).lines[i] =
      if s.targetLevel s.lines[i] = s.targetLevel l then l else l.meet (s.targetLevel l) := by
  have hline : ((s.setLine i l).pointAfter a .write).lines[i] = l := s.setLine_lines_same i l
  rw [State.hostWrite, hstore, State.driveFrom_lines, hline]
  rfl

theorem State.hostWrite_port_of_stored (hstore : s.writeAt a v = s.setLine i l) :
    (s.hostWrite a v).port = s.port.after a := by
  simp [State.hostWrite, hstore]

theorem State.hostWrite_keeps_of_stored (hstore : s.writeAt a v = s.setLine i l) :
    Keeps [.lines, .port] s (s.hostWrite a v) := by
  simp [State.hostWrite, hstore, Keeps]

/-- A byte out of range or at a read-only item sets WRITE_IGNORED and does nothing else (12, R182). -/
theorem State.hostWrite_ignored (hignored : s.writeAt a v = s.ignoreWrite) :
    (s.hostWrite a v).port = { s.port.after a with writeIgnored := true } ∧ Keeps [.port] s (s.hostWrite a v) := by
  rw [State.hostWrite_quiet hignored rfl rfl rfl rfl]
  exact ⟨rfl, by simp [Keeps]⟩

end

/-- Settles O22: the targets by R171's rows, and a write by what the line stores of the byte. -/
theorem indicatorWrites : Obligations.IndicatorWrites := by
  refine ⟨fun s l => ⟨State.targetLevel_of_dark, fun hlit => ?targets⟩, ?writes⟩
  case targets =>
    rw [State.targetLevel_of_lit hlit, State.sourceLevel]
    refine ⟨fun hsource => ?_, fun hsource => ?_, fun c hsource => ?_, fun g hsource => ?_⟩ <;> rw [hsource]
  case writes =>
    intro s line item v address l port stored hanswers hpage
    have hstored : stored = l.writeItem item v := by
      cases item with
      | source => exact (l.writeItem_source v).symm
      | hostBit => exact (l.writeItem_hostBit v).symm
      | onLevel | offLevel | flags | currentLevel => rfl
    have hwrite : s.writeAt address v = s.writeIndicator line item v := State.writeAt_item hpage line item v
    refine ⟨s.hostWrite address v, congrArg Host.Outcome.next (State.onBus_of_answersAt hanswers _), ?_⟩
    rw [State.writeIndicator, ← hstored] at hwrite
    cases hs : stored with
    | none =>
      rw [hs] at hwrite
      exact State.hostWrite_ignored hwrite
    | some l' =>
      rw [hs] at hwrite
      exact ⟨fun j hj => State.hostWrite_lines_other hwrite hj, State.hostWrite_lines_same hwrite,
        State.hostWrite_port_of_stored hwrite, State.hostWrite_keeps_of_stored hwrite⟩

/-! ## The fade interval (11, R174) -/

/-- A byte in range, as the interval it gives. -/
theorem IndicatorLine.changeFade_of_le (l : IndicatorLine) (target : BitVec 6) {v : Byte} (h : v.toNat ≤ 15) :
    l.changeFade (v.setWidth 4) target =
      if v.toNat = l.fade.toNat then l
      else if v.toNat = 0 then { l with fade := 0, level := target, timer := none }
      else if l.level = target then { l with fade := BitVec.ofNat 4 v.toNat, timer := none }
      else { l with fade := BitVec.ofNat 4 v.toNat, timer := some (8 * v.toNat) } := by
  have hnat : (v.setWidth 4).toNat = v.toNat := by
    rw [BitVec.toNat_setWidth]
    omega
  have hfade : v.setWidth 4 = BitVec.ofNat 4 v.toNat := rfl
  have hsame : v.setWidth 4 = l.fade ↔ v.toNat = l.fade.toNat := by rw [← hnat, BitVec.toNat_inj]
  have hzero : v.setWidth 4 = 0 ↔ v.toNat = 0 := by rw [← hnat, ← BitVec.toNat_inj]; rfl
  simp only [IndicatorLine.changeFade, hsame, hzero, hnat]
  rw [hfade]

/-- A new fade interval leaves the target as it was. -/
theorem State.targetLevel_changeFade (s : State) (l : IndicatorLine) (fade : BitVec 4) (target : BitVec 6) :
    s.targetLevel (l.changeFade fade target) = s.targetLevel l := by
  unfold IndicatorLine.changeFade
  repeat' split
  all_goals exact s.targetLevel_of_line rfl rfl rfl rfl rfl

/-- Settles O23: above 15 the write is ignored, and a line with a new interval keeps its target. -/
theorem fadeIntervalWrites : Obligations.FadeIntervalWrites := by
  intro s line v address l target port hanswers hpage
  have haddress : itemAddress line 4 = address := by
    rw [itemAddress]
    congr 1
    omega
  have hwrite : s.writeAt address v = s.writeFade line v := haddress ▸ State.writeAt_fade hpage line v
  have hexec : exec (.fadeIntervalWrite line v) s = .next (s.hostWrite address v) := by
    rw [exec_of_writtenAt (a := address) (v := v) rfl, State.onBus_of_answersAt hanswers]
  refine ⟨_, hexec, fun hv => ?ignored, fun hv => ?stored⟩
  case ignored =>
    rw [State.writeFade, if_neg (by omega)] at hwrite
    exact State.hostWrite_ignored hwrite
  case stored =>
    rw [State.writeFade, if_pos hv] at hwrite
    refine ⟨fun j hj => State.hostWrite_lines_other hwrite hj, ?_, State.hostWrite_port_of_stored hwrite,
      State.hostWrite_keeps_of_stored hwrite⟩
    rw [State.hostWrite_lines_same hwrite, if_pos (s.targetLevel_changeFade _ _ _).symm]
    exact l.changeFade_of_le target hv

end Sys2Proof.Machine
end

section
/-! SUPPORT. The interface of the part: the command at the front of the queue (log 1), and what each command does as the
bus sees it (12, R179, R180, R185; log 13): a byte that begins a transaction, a further byte of one, or no byte. -/

namespace Sys2Proof.Machine

/-! ## A step -/

theorem step_of_nil {s : State} (h : s.pending = []) : step s = .next s := by
  rw [step, h]

theorem step_of_cons {s : State} {c : Instr} {rest : List Instr} (h : s.pending = c :: rest) :
    step s = exec c (s.withPending rest) := by
  rw [step, h]

/-- Settles O1, by the queue. -/
theorem stepRunsFrontCommand : Obligations.StepRunsFrontCommand :=
  ⟨fun _ _ _ h => step_of_cons h, fun _ h => step_of_nil h⟩

/-! ## A byte that is taken -/

/-- What every byte that the port takes has in common, whatever else it does: its effect does not read the power
condition, it goes on with an answered transaction, and it leaves the queue of waiting commands. -/
structure ByteEffect (d : Direction) (f : State → State) : Prop where
  withPower : ∀ (u : State) (p : Power), f (u.withPower p) = (f u).withPower p
  answered : ∀ u : State, (f u).port.transaction = some (.answered d)
  pending : ∀ u : State, (f u).pending = u.pending

theorem hostWrite_byteEffect (a v : Byte) : ByteEffect .write fun u => u.hostWrite a v where
  withPower u p := u.hostWrite_withPower p a v
  answered u := by simp [State.hostWrite, HostPort.after]
  pending u := by simp

/-- A byte written at the register pointer. -/
theorem hostWrite_pointer_byteEffect (v : Byte) : ByteEffect .write fun u => u.hostWrite u.port.pointer v where
  withPower u p := u.hostWrite_withPower p u.port.pointer v
  answered u := (hostWrite_byteEffect u.port.pointer v).answered u
  pending u := (hostWrite_byteEffect u.port.pointer v).pending u

theorem setPointer_byteEffect (v : Byte) : ByteEffect .write fun u => u.setPointer v where
  withPower u p := u.setPointer_withPower p v
  answered _ := rfl
  pending _ := rfl

theorem hostRead_byteEffect (a : Byte) : ByteEffect .read fun u => u.hostRead a where
  withPower u p := u.hostRead_withPower p a
  answered _ := rfl
  pending u := by simp

section

variable {d : Direction} {f : State → State} (hf : ByteEffect d f) (u : State)

include hf

/-- A byte's effect is the one it has when the part answers (12, R185). -/
theorem ByteEffect.eq_of_answering {p : Power} (h : u.power = p) : f u = (f (u.withPower .answering)).withPower p := by
  subst h
  rw [hf.withPower]
  exact hf.withPower u u.power

theorem ByteEffect.beginTransaction_pending (next : Byte) : (u.beginTransaction d next f).pending = u.pending := by
  unfold State.beginTransaction
  split
  · rfl
  · exact hf.pending u
  · dsimp only
    split
    · exact hf.pending _
    · rfl

theorem ByteEffect.furtherByte_pending : (u.furtherByte d f).pending = u.pending := by
  unfold State.furtherByte
  repeat' split
  · exact hf.pending u
  all_goals rfl

end

/-! ## The roles of the commands on the bus (log 13) -/

/-- A byte goes on with the open transaction exactly where that stands at the byte's address. -/
theorem HostPort.roleAt_eq (p : HostPort) (d : Direction) (a : Byte) :
    p.roleAt d a = if p.place d = some a then .further d else .begins d (a + 1) := by
  unfold HostPort.roleAt HostPort.place
  cases p.transaction with
  | none => simp
  | some transaction => cases transaction <;> simp [and_comm]

/-- A further byte of a transaction left unanswered is a byte of a write. -/
theorem HostPort.write_of_place {p : HostPort} {d : Direction} {a next : Byte} (h : p.place d = some a)
    (hleft : p.transaction = some (.left next)) : d = .write := by
  by_contra hd
  simp [HostPort.place, hleft, hd] at h

theorem busRole_of_writtenAt {i : Instr} {a v : Byte} (h : writtenAt i = some (a, v)) (p : HostPort) :
    busRole i p = p.roleAt .write a := by
  cases i with
  | registerPointer | registerWrite | hold | pop | latchedFieldRead => cases h
  | _ =>
    unfold busRole
    rw [h]

/-- What a command does in its role: a byte has an effect where it is taken, in every state with the same port; a
command off the bus answers a next state, and only the pin RESETn itself acts while it is low (12, R185). -/
def ActsInRole (i : Instr) (s : State) : BusRole → Prop
  | .begins d next =>
    ∃ f, ByteEffect d f ∧ ∀ u : State, u.port = s.port → exec i u = .next (u.beginTransaction d next f)
  | .further d =>
    (∀ next, s.port.transaction = some (.left next) → d = .write) ∧
      ∃ f, ByteEffect d f ∧ ∀ u : State, u.port = s.port → exec i u = .next (u.furtherByte d f)
  | .offBus =>
    ∃ t, exec i s = .next t ∧ t.pending = s.pending ∧
      (s.power = .heldInReset → i ≠ .resetnAssert → (∀ b, i ≠ .resetnRelease b) → t = s)

section

variable {i : Instr} {s : State}

/-- The byte at one address, in the role that the port gives it. -/
theorem actsInRole_of_onBus {d : Direction} {a : Byte} {f : State → State} (hf : ByteEffect d f)
    (h : ∀ u : State, u.port = s.port → exec i u = .next (u.onBus d a f)) : ActsInRole i s (s.port.roleAt d a) := by
  rw [HostPort.roleAt_eq]
  split
  next hplace =>
    refine ⟨fun next hleft => HostPort.write_of_place hplace hleft, f, hf, fun u hu => ?_⟩
    rw [h u hu, State.onBus_further (hu ▸ hplace)]
  next hplace =>
    refine ⟨f, hf, fun u hu => ?_⟩
    rw [h u hu, State.onBus_begins (hu ▸ hplace)]

/-- An event inside the part. -/
theorem actsInRole_of_inside {f : State → State} (hexec : exec i s = .next (s.inside f))
    (hf : (f s).pending = s.pending) : ActsInRole i s .offBus := by
  refine ⟨_, hexec, ?_, fun hheld _ _ => if_pos hheld⟩
  unfold State.inside
  split
  · rfl
  · simpa using hf

/-- The end of the transaction that carried a RESET. -/
theorem actsInRole_of_endTransaction {kind : ResetKind} {reset : State → State}
    (hexec : exec i s = .next (s.endTransaction kind reset)) (hreset : (reset s).pending = s.pending) :
    ActsInRole i s .offBus := by
  refine ⟨_, hexec, ?_, fun hheld _ _ => if_neg fun h => h.1 hheld⟩
  unfold State.endTransaction
  split
  · exact hreset
  · rfl

end

/-- With the start-up time over, its end is no event (log 2). -/
theorem State.endStartUp_of_ne {s : State} (h : s.power ≠ .startUp) : s.endStartUp = s := if_neg h

theorem State.endStartUp_of_startUp {s : State} (h : s.power = .startUp) : s.endStartUp = s.withPower .answering :=
  if_pos h

theorem State.endStartUp_pending (s : State) : s.endStartUp.pending = s.pending := by
  unfold State.endStartUp
  split <;> rfl

/-- Every command acts in the role it has on the bus. -/
theorem exec_actsInRole (i : Instr) (s : State) : ActsInRole i s (busRole i s.port) := by
  cases hw : writtenAt i with
  | some av =>
    obtain ⟨a, v⟩ := av
    rw [busRole_of_writtenAt hw]
    exact actsInRole_of_onBus (hostWrite_byteEffect a v) fun u _ => exec_of_writtenAt hw u
  | none =>
    cases i with
    | registerWrite value => exact ⟨fun _ _ => rfl, _, hostWrite_pointer_byteEffect value, fun _ _ => rfl⟩
    | registerPointer value => exact ⟨_, setPointer_byteEffect value, fun _ _ => rfl⟩
    | hold => exact actsInRole_of_onBus (hostRead_byteEffect 0x10) fun _ _ => rfl
    | pop => exact actsInRole_of_onBus (hostRead_byteEffect 0x13) fun _ _ => rfl
    | latchedFieldRead =>
      exact actsInRole_of_onBus (hostRead_byteEffect s.port.pointer) fun u hu =>
        exec_latchedFieldRead_at (congrArg HostPort.pointer hu)
    | roundTimerExpiry => exact actsInRole_of_inside (f := State.expireRoundTimer) rfl (by simp)
    | conversion cycles => exact actsInRole_of_inside (f := fun u => u.endConversion cycles) rfl (by simp)
    | fadeTimerExpiry line => exact actsInRole_of_inside (f := fun u => u.expireFadeTimer line) rfl (by simp)
    | pulseTimerExpiry => exact actsInRole_of_inside (f := State.endPulse) rfl rfl
    | pwmFrame => exact actsInRole_of_inside (f := State.startFrame) rfl rfl
    | warmReset => exact actsInRole_of_endTransaction (kind := .warm) (reset := State.warmReset) rfl rfl
    | coldReset => exact actsInRole_of_endTransaction (kind := .cold) (reset := State.coldReset) rfl rfl
    | startUpTimeEnd =>
      refine ⟨_, rfl, s.endStartUp_pending, fun hheld _ _ => State.endStartUp_of_ne ?_⟩
      rw [hheld]
      nofun
    | resetnAssert => exact ⟨s.holdInReset, rfl, rfl, fun _ hne _ => absurd rfl hne⟩
    | resetnRelease addrHigh => exact ⟨s.release addrHigh, rfl, rfl, fun _ _ hne => absurd rfl (hne addrHigh)⟩
    | _ => cases hw

/-- Settles O2, by the role on the bus: in each a command answers, and leaves the waiting commands. -/
theorem everyCommandCompletes : Obligations.EveryCommandCompletes := by
  intro c s
  have hacts := exec_actsInRole c s
  generalize busRole c s.port = role at hacts
  cases role with
  | begins d next =>
    obtain ⟨f, hf, hexec⟩ := hacts
    exact ⟨_, hexec s rfl, hf.beginTransaction_pending s next⟩
  | further d =>
    obtain ⟨-, f, hf, hexec⟩ := hacts
    exact ⟨_, hexec s rfl, hf.furtherByte_pending s⟩
  | offBus =>
    obtain ⟨t, hexec, hpending, -⟩ := hacts
    exact ⟨t, hexec, hpending⟩

/-! ## RESETn and the start-up time (12, R185) -/

theorem HostPort.abandoned_of_write {p : HostPort} (h : p.transaction = some (.answered .write)) :
    p.abandoned = some (.left p.pointer) := by
  rw [HostPort.abandoned, h]

theorem HostPort.abandoned_of_read {p : HostPort} (h : p.transaction = some (.answered .read)) :
    p.abandoned = none := by
  rw [HostPort.abandoned, h]

/-- RESETn leaves a transaction that the port does not answer as it is. -/
theorem HostPort.abandoned_of_unanswered {p : HostPort} (h : ∀ d, p.transaction ≠ some (.answered d)) :
    p.abandoned = p.transaction := by
  unfold HostPort.abandoned
  split
  next hopen => exact absurd hopen (h .write)
  next hopen => exact absurd hopen (h .read)
  next hleft => exact hleft.symm
  next hclosed => exact hclosed.symm

/-- A transaction left unanswered: of a write the next byte stands further, a read is over (12, R180, R185). -/
theorem State.leave_eq (s : State) (d : Direction) (next : Byte) :
    s.leave d next = s.withPort { s.port with transaction := if d = .write then some (.left next) else none } := by
  cases d <;> rfl

section

variable {i : Instr} {s : State} {d : Direction} {next : Byte}

/-- While RESETn is low, a command off the bus does nothing. -/
theorem exec_of_offBus_held (hrole : busRole i s.port = .offBus) (hp : s.power = .heldInReset)
    (hassert : i ≠ .resetnAssert) (hrelease : ∀ b, i ≠ .resetnRelease b) : exec i s = .next s := by
  obtain ⟨t, hexec, -, hheld⟩ := hrole ▸ exec_actsInRole i s
  rw [hexec, hheld hp hassert hrelease]

/-- A transaction that begins while RESETn is low is left. -/
theorem exec_of_begins_held (hrole : busRole i s.port = .begins d next) (hp : s.power = .heldInReset) :
    exec i s = .next (s.leave d next) := by
  obtain ⟨f, -, hexec⟩ := hrole ▸ exec_actsInRole i s
  rw [hexec s rfl, State.beginTransaction_of_held hp]

/-- A transaction that begins in the start-up time has the effect it has when the part answers, or is left, as the draw
says. -/
theorem exec_of_begins_startUp (hrole : busRole i s.port = .begins d next) (hp : s.power = .startUp) :
    ∃ u, exec i ((s.withFreeDraws (s.freeDraws + 1)).withPower .answering) = .next u ∧
      exec i s = .next (if Config.startUpAnswers s.freeDraws = true then u.withPower .startUp
        else (s.withFreeDraws (s.freeDraws + 1)).leave d next) := by
  obtain ⟨f, hf, hexec⟩ := hrole ▸ exec_actsInRole i s
  refine ⟨f ((s.withFreeDraws (s.freeDraws + 1)).withPower .answering), ?_, ?_⟩
  · rw [hexec ((s.withFreeDraws (s.freeDraws + 1)).withPower .answering) rfl, State.beginTransaction_of_answering rfl]
  · rw [hexec s rfl, State.beginTransaction_of_startUp hp, hf.eq_of_answering (s.withFreeDraws (s.freeDraws + 1)) hp]

/-- A transaction that begins after the start-up time is answered. -/
theorem exec_of_begins_answering (hrole : busRole i s.port = .begins d next) (hp : s.power = .answering) :
    ∃ t, exec i s = .next t ∧ t.port.transaction = some (.answered d) := by
  obtain ⟨f, hf, hexec⟩ := hrole ▸ exec_actsInRole i s
  exact ⟨f s, by rw [hexec s rfl, State.beginTransaction_of_answering hp], hf.answered s⟩

/-- A further byte of a transaction left or abandoned is not taken. -/
theorem exec_of_further_left (hrole : busRole i s.port = .further d) (hleft : s.port.transaction = some (.left next)) :
    exec i s = .next (s.leave d (next + 1)) := by
  obtain ⟨hwrite, f, -, hexec⟩ := hrole ▸ exec_actsInRole i s
  obtain rfl := hwrite next hleft
  rw [hexec s rfl, State.furtherByte_of_left hleft]

/-- A further byte of an answered transaction has, in the start-up time, the effect it has when the part answers. -/
theorem exec_of_further_startUp (hrole : busRole i s.port = .further d)
    (hopen : s.port.transaction = some (.answered d)) (hp : s.power = .startUp) :
    ∃ u, exec i (s.withPower .answering) = .next u ∧ exec i s = .next (u.withPower .startUp) := by
  obtain ⟨-, f, hf, hexec⟩ := hrole ▸ exec_actsInRole i s
  refine ⟨f (s.withPower .answering), ?_, ?_⟩
  · rw [hexec (s.withPower .answering) rfl, State.furtherByte_of_answered (s := s.withPower .answering) hopen nofun]
  · rw [hexec s rfl, State.furtherByte_of_answered hopen (by simp [hp]), hf.eq_of_answering s hp]

end

/-- Settles O20: the pin and the start-up time by the states they lead to, every command by its role on the bus. -/
theorem resetPinIsPowerOn : Obligations.ResetPinIsPowerOn := by
  unfold Obligations.ResetPinIsPowerOn
  intro powerOn abandons leaving
  have hpowerOn (s : State) (p : Power) (a : BitVec 7) (transaction : Option Transaction) :
      powerOn (s.powerOnValues p a transaction) :=
    ⟨rfl, rfl, rfl, rfl, rfl, rfl, rfl, rfl, rfl, rfl, rfl, rfl, rfl⟩
  have habandons (s : State) (p : Power) (a : BitVec 7) : abandons s (s.powerOnValues p a s.port.abandoned) :=
    ⟨HostPort.abandoned_of_write, HostPort.abandoned_of_read, HostPort.abandoned_of_unanswered⟩
  have hleaving (s : State) (d : Direction) (next : Byte) : leaving s d next = s.leave d next :=
    (s.leave_eq d next).symm
  refine ⟨fun s => ?assert, fun s addrHigh => ?release, fun s hp => ?startUpEnds, fun s hp => ?noEvent,
    fun s i hp hrole hassert hrelease => ?offBus, fun s i d next hrole => ?begins, fun s i d hrole => ?further⟩
  case assert => exact ⟨s.holdInReset, rfl, rfl, hpowerOn s _ _ _, habandons s _ _, rfl⟩
  case release => exact ⟨s.release addrHigh, rfl, rfl, hpowerOn s _ _ _, habandons s _ _, rfl⟩
  case startUpEnds =>
    exact ⟨_, congrArg Host.Outcome.next (State.endStartUp_of_startUp hp), rfl, by simp [Keeps]⟩
  case noEvent => exact congrArg Host.Outcome.next (State.endStartUp_of_ne (by simp [hp]))
  case offBus => exact exec_of_offBus_held hrole hp hassert hrelease
  case begins =>
    simp only [hleaving]
    exact ⟨exec_of_begins_held hrole, exec_of_begins_startUp hrole, exec_of_begins_answering hrole⟩
  case further =>
    simp only [hleaving]
    exact ⟨fun next => exec_of_further_left hrole, exec_of_further_startUp hrole⟩

/-! ## The identity bytes (12, R186) -/

section

variable {s : State} (h : s.port.pointer = 0x00 ∨ s.port.pointer = 0x01)

include h

/-- The identity bytes are in no latched field, and their bytes are fixed. -/
theorem State.readAt_identity :
    s.readAt s.port.pointer = s.send (if s.port.pointer = 0x00 then 0xD2 else 0x11) := by
  obtain h | h := h <;> rw [h] <;> rfl

theorem ignoresEveryWrite_identity : ignoresEveryWrite s.port.page s.port.pointer = true := by
  obtain h | h := h <;> rw [h] <;> rfl

end

/-- Settles O27: the read sends the fixed byte, and the address is one of those that ignore every write. -/
theorem identityBytesFixed : Obligations.IdentityBytesFixed := by
  refine fun s hpointer => ⟨fun hreads => ?read, fun v hwrites => ?write⟩
  case read =>
    obtain ⟨t, hexec, hport, -⟩ := exec_latchedFieldRead_sends hreads (State.readAt_identity hpointer)
    exact ⟨t, hexec, by rw [hport]⟩
  case write =>
    obtain ⟨-, htaken⟩ := argumentsStoredAndOthersIgnored s v
    obtain ⟨t, hexec, -, -, hignored⟩ := htaken hwrites
    obtain ⟨hport, hkeeps⟩ := hignored (ignoresEveryWrite_identity hpointer)
    exact ⟨t, hexec, by rw [hport], hkeeps⟩

end Sys2Proof.Machine
end
